-- ==== Sys2Proof/Word.lean ====
section
/-! DEFINITION. The byte and byte-array types of the spec (00_scope.md R15). Bit-field, byte-order and lane
helpers are in Machine/Operands.lean. -/

namespace Sys2Proof

/-- A byte (R15). -/
abbrev Byte := BitVec 8

/-- A byte array of `n` lanes; lane 0 is the first byte on the wire (R15). -/
abbrev Lanes (n : Nat) := Vector Byte n

/-- `PAY[0..7]`, an SDO payload; the same eight lanes are `DAT[0..7]` of the frame that carries it (R15). -/
abbrev Payload := Lanes 8

/-- `REC[0..15]`, the wire record (R15, 20_memory.md R41). -/
abbrev Record := Lanes 16

/-- A byte array of zeros, what a lane nobody writes holds. -/
def zeroLanes (n : Nat) : Lanes n := Vector.replicate n 0

end Sys2Proof
end

