-- ==== Sys2Proof/Config.lean ====
section
/-! DEFINITION. The parameters of 00_scope.md: those the source fixes (R9), the command-specifier map `CsMap`
with the spec's defaults (R10) and its constraint (R11), and the one host parameter with a value (R12).
The spec leaves no value of the block open, so no free value stands here (93_implementation_defined.md, opening). -/

namespace Sys2Proof.Config

/-- `REC_BYTES` (R9). -/
def recBytes : Nat := 16
/-- `MAX_DLC` (R9). -/
def maxDlc : Nat := 8
/-- `SDO_BYTES` (R9). -/
def sdoBytes : Nat := 8
/-- `SEG_BYTES` (R9). -/
def segBytes : Nat := 7
/-- `EXP_BYTES` (R9). -/
def expBytes : Nat := 4
/-- `CS_ABORT` (R9), the command specifier of an abort in both directions. -/
def csAbort : BitVec 3 := 4
/-- `SUB_INITIATE` (R9). -/
def subInitiate : BitVec 2 := 0
/-- `SUB_END` (R9). -/
def subEnd : BitVec 2 := 1
/-- `SUB_RESPONSE` (R9). -/
def subResponse : BitVec 2 := 2
/-- `CRC_POLY` (R9). -/
def crcPoly : BitVec 16 := 0x1021
/-- `CRC_INIT` (R9). -/
def crcInit : BitVec 16 := 0x0000
/-- `BLKSIZE_PROPOSED` (R12), a parameter of the host; the other one, `T_TIMEOUT`, is open and nothing here uses it. -/
def blksizeProposed : BitVec 8 := 127

end Sys2Proof.Config

namespace Sys2Proof

/-- The command-specifier map (R10): twelve 3-bit specifiers and the block-upload "start" subcommand. -/
structure CsMap where
  /-- client, download segment request -/
  ccsDlSeg : BitVec 3
  /-- client, initiate download request -/
  ccsDlInit : BitVec 3
  /-- client, initiate upload request -/
  ccsUlInit : BitVec 3
  /-- client, upload segment request -/
  ccsUlSeg : BitVec 3
  /-- client, every block-upload message -/
  ccsBlkUl : BitVec 3
  /-- client, every block-download message -/
  ccsBlkDl : BitVec 3
  /-- server, upload segment response -/
  scsUlSeg : BitVec 3
  /-- server, download segment response -/
  scsDlSeg : BitVec 3
  /-- server, initiate upload response -/
  scsUlInit : BitVec 3
  /-- server, initiate download response -/
  scsDlInit : BitVec 3
  /-- server, every block-download message -/
  scsBlkDl : BitVec 3
  /-- server, every block-upload message -/
  scsBlkUl : BitVec 3
  /-- `SUB_START` -/
  subStart : BitVec 2
  deriving DecidableEq, Repr

/-- The defaults of R10, which the spec marks as general knowledge (93_implementation_defined.md G1, G2); see
assumption 1. -/
def CsMap.default : CsMap where
  ccsDlSeg := 0
  ccsDlInit := 1
  ccsUlInit := 2
  ccsUlSeg := 3
  ccsBlkUl := 5
  ccsBlkDl := 6
  scsUlSeg := 0
  scsDlSeg := 1
  scsUlInit := 2
  scsDlInit := 3
  scsBlkDl := 5
  scsBlkUl := 6
  subStart := 3

/-- The six client specifiers of R11. -/
def CsMap.clientValues (m : CsMap) : List (BitVec 3) :=
  [m.ccsDlSeg, m.ccsDlInit, m.ccsUlInit, m.ccsUlSeg, m.ccsBlkUl, m.ccsBlkDl]

/-- The six server specifiers of R11. -/
def CsMap.serverValues (m : CsMap) : List (BitVec 3) :=
  [m.scsUlSeg, m.scsDlSeg, m.scsUlInit, m.scsDlInit, m.scsBlkDl, m.scsBlkUl]

/-- The constraint of R11: the six values of each sender and `CS_ABORT` are pairwise distinct, and `SUB_START`
differs from the three subcommands the source gives. -/
abbrev CsMap.Wf (m : CsMap) : Prop :=
  (Config.csAbort :: m.clientValues).Nodup ∧ (Config.csAbort :: m.serverValues).Nodup ∧
    [Config.subInitiate, Config.subEnd, Config.subResponse, m.subStart].Nodup

end Sys2Proof
end

