-- ==== Sys2Proof/Syntax.lean ====
section
/-! DEFINITION. The instructions: one constructor per row of spec/opcode_table.json, 52 operations (30_encoding.md
R91) and 23 wire formats (R60 to R64, R75), with the operand fields of 10_state.md R23; and what stands at the
block's port, an operation with its operand bundle (R90) or an item in one of the wire formats (assumption 4). -/

namespace Sys2Proof

/-- `dir`: who sent an SDO payload (10_state.md R23: 0 = client, 1 = server). -/
inductive Sender where
  | client
  | server
  deriving DecidableEq, Repr

/-- The 21 message kinds (30_encoding.md R75), in the order of their numbers. -/
inductive Kind where
  | abort | subblk | dlInitC | dlInitS | dlSegC | dlSegS | ulInitC | ulInitS | ulSegC | ulSegS
  | bdlInitC | bdlInitS | bdlAckS | bdlEndC | bdlEndS
  | bulInitC | bulInitS | bulStartC | bulAckC | bulEndS | bulEndC
  deriving DecidableEq, Repr

/-- The operand bundle of a request: every operand field of 10_state.md R23, at its width. A field the host does
not drive is 0; an operation reads the fields its rule names and no other. -/
structure OperandBundle where
  arbId : BitVec 29 := 0
  ext : Bool := false
  rtr : Bool := false
  err : Bool := false
  dlc : BitVec 4 := 0
  dat : Lanes 8 := zeroLanes 8
  record : Record := zeroLanes 16
  recLen : BitVec 8 := 0
  fc : BitVec 8 := 0
  node : BitVec 8 := 0
  cob : BitVec 11 := 0
  pay : Payload := zeroLanes 8
  plen : BitVec 4 := 0
  dir : Sender := .client
  index : BitVec 16 := 0
  subidx : BitVec 8 := 0
  e : Bool := false
  s : Bool := false
  n : BitVec 3 := 0
  len : BitVec 4 := 0
  d : Lanes 7 := zeroLanes 7
  size : BitVec 32 := 0
  code : BitVec 32 := 0
  t : Bool := false
  c : Bool := false
  crcsup : Bool := false
  seqno : BitVec 7 := 0
  ackseq : BitVec 8 := 0
  blksize : BitVec 8 := 0
  crc : BitVec 16 := 0
  deriving DecidableEq, Repr

/-- What stands at the port, one constructor per format of 30_encoding.md R60. -/
inductive PortWord where
  /-- `F-OP`: an operation, its selector and its operand bundle (R90) -/
  | op (sel : BitVec 8) (opd : OperandBundle)
  /-- the identifier word `W` of `F-REC` (R61) -/
  | recWord (w : BitVec 32)
  /-- `F-COB` (R63) -/
  | cobId (id : BitVec 11)
  /-- `F-SDO`, an envelope and who sent it (R64, R65) -/
  | envelope (dir : Sender) (pay : Payload)
  /-- `F-SUB`, a sub-block (R79, R86) -/
  | subblock (pay : Payload)
  deriving DecidableEq, Repr

/-- One constructor per row of spec/opcode_table.json. -/
inductive Instr where
  /-- `CANF.ENC`, 40_canframe.md R101 -/
  | canfEnc (arbId : BitVec 29) (ext rtr err : Bool) (dlc : BitVec 4) (dat : Lanes 8)
  /-- `CANF.DEC`, R102 -/
  | canfDec (recLen : BitVec 8) (record : Record)
  /-- `COB.COMPOSE`, 41_cobid.md R121 -/
  | cobCompose (fc node : BitVec 8)
  /-- `COB.DECOMPOSE`, R122 -/
  | cobDecompose (cob : BitVec 11)
  /-- `COB.CLASSIFY`, R125 -/
  | cobClassify (arbId : BitVec 29) (ext rtr err : Bool)
  /-- `SDO.IDENT`, 42_sdo_common.md R145 -/
  | sdoIdent (dir : Sender) (plen : BitVec 4) (pay : Payload)
  /-- `SDOB.ABORT`, R148 -/
  | sdobAbort (index : BitVec 16) (subidx : BitVec 8) (code : BitVec 32)
  /-- `SDOB.SUBBLK`, 44_sdo_block.md R220 -/
  | sdobSubblk (c : Bool) (seqno : BitVec 7) (len : BitVec 4) (d : Lanes 7)
  /-- `SDOB.DL_INIT_C`, 43_sdo_expedited_segmented.md R180 -/
  | sdobDlInitC (index : BitVec 16) (subidx : BitVec 8) (e s : Bool) (len : BitVec 4) (d : Lanes 4) (size : BitVec 32)
  /-- `SDOB.DL_INIT_S`, R182 -/
  | sdobDlInitS (index : BitVec 16) (subidx : BitVec 8)
  /-- `SDOB.DL_SEG_C`, R184 -/
  | sdobDlSegC (t c : Bool) (len : BitVec 4) (d : Lanes 7)
  /-- `SDOB.DL_SEG_S`, R186 -/
  | sdobDlSegS (t : Bool)
  /-- `SDOB.UL_INIT_C`, R188 -/
  | sdobUlInitC (index : BitVec 16) (subidx : BitVec 8)
  /-- `SDOB.UL_INIT_S`, R190 -/
  | sdobUlInitS (index : BitVec 16) (subidx : BitVec 8) (e s : Bool) (len : BitVec 4) (d : Lanes 4) (size : BitVec 32)
  /-- `SDOB.UL_SEG_C`, R192 -/
  | sdobUlSegC (t : Bool)
  /-- `SDOB.UL_SEG_S`, R194 -/
  | sdobUlSegS (t c : Bool) (len : BitVec 4) (d : Lanes 7)
  /-- `SDOB.BDL_INIT_C`, 44_sdo_block.md R222 -/
  | sdobBdlInitC (index : BitVec 16) (subidx : BitVec 8) (crcsup s : Bool) (size : BitVec 32)
  /-- `SDOB.BDL_INIT_S`, R224 -/
  | sdobBdlInitS (index : BitVec 16) (subidx : BitVec 8) (crcsup : Bool) (blksize : BitVec 8)
  /-- `SDOB.BDL_ACK_S`, R226 -/
  | sdobBdlAckS (ackseq blksize : BitVec 8)
  /-- `SDOB.BDL_END_C`, R228 -/
  | sdobBdlEndC (n : BitVec 3) (crc : BitVec 16)
  /-- `SDOB.BDL_END_S`, R230 -/
  | sdobBdlEndS
  /-- `SDOB.BUL_INIT_C`, R232 -/
  | sdobBulInitC (index : BitVec 16) (subidx : BitVec 8) (crcsup : Bool) (blksize : BitVec 8)
  /-- `SDOB.BUL_INIT_S`, R234 -/
  | sdobBulInitS (index : BitVec 16) (subidx : BitVec 8) (crcsup s : Bool) (size : BitVec 32)
  /-- `SDOB.BUL_START_C`, R236 -/
  | sdobBulStartC
  /-- `SDOB.BUL_ACK_C`, R238 -/
  | sdobBulAckC (ackseq blksize : BitVec 8)
  /-- `SDOB.BUL_END_S`, R240 -/
  | sdobBulEndS (n : BitVec 3) (crc : BitVec 16)
  /-- `SDOB.BUL_END_C`, R242 -/
  | sdobBulEndC
  /-- `SDOP.ABORT`, 42_sdo_common.md R149 -/
  | sdopAbort (plen : BitVec 4) (pay : Payload)
  /-- `SDOP.SUBBLK`, 44_sdo_block.md R221 -/
  | sdopSubblk (plen : BitVec 4) (pay : Payload)
  /-- `SDOP.DL_INIT_C`, 43_sdo_expedited_segmented.md R181 -/
  | sdopDlInitC (plen : BitVec 4) (pay : Payload)
  /-- `SDOP.DL_INIT_S`, R183 -/
  | sdopDlInitS (plen : BitVec 4) (pay : Payload)
  /-- `SDOP.DL_SEG_C`, R185 -/
  | sdopDlSegC (plen : BitVec 4) (pay : Payload)
  /-- `SDOP.DL_SEG_S`, R187 -/
  | sdopDlSegS (plen : BitVec 4) (pay : Payload)
  /-- `SDOP.UL_INIT_C`, R189 -/
  | sdopUlInitC (plen : BitVec 4) (pay : Payload)
  /-- `SDOP.UL_INIT_S`, R191 -/
  | sdopUlInitS (plen : BitVec 4) (pay : Payload)
  /-- `SDOP.UL_SEG_C`, R193 -/
  | sdopUlSegC (plen : BitVec 4) (pay : Payload)
  /-- `SDOP.UL_SEG_S`, R195 -/
  | sdopUlSegS (plen : BitVec 4) (pay : Payload)
  /-- `SDOP.BDL_INIT_C`, 44_sdo_block.md R223 -/
  | sdopBdlInitC (plen : BitVec 4) (pay : Payload)
  /-- `SDOP.BDL_INIT_S`, R225 -/
  | sdopBdlInitS (plen : BitVec 4) (pay : Payload)
  /-- `SDOP.BDL_ACK_S`, R227 -/
  | sdopBdlAckS (plen : BitVec 4) (pay : Payload)
  /-- `SDOP.BDL_END_C`, R229 -/
  | sdopBdlEndC (plen : BitVec 4) (pay : Payload)
  /-- `SDOP.BDL_END_S`, R231 -/
  | sdopBdlEndS (plen : BitVec 4) (pay : Payload)
  /-- `SDOP.BUL_INIT_C`, R233 -/
  | sdopBulInitC (plen : BitVec 4) (pay : Payload)
  /-- `SDOP.BUL_INIT_S`, R235 -/
  | sdopBulInitS (plen : BitVec 4) (pay : Payload)
  /-- `SDOP.BUL_START_C`, R237 -/
  | sdopBulStartC (plen : BitVec 4) (pay : Payload)
  /-- `SDOP.BUL_ACK_C`, R239 -/
  | sdopBulAckC (plen : BitVec 4) (pay : Payload)
  /-- `SDOP.BUL_END_S`, R241 -/
  | sdopBulEndS (plen : BitVec 4) (pay : Payload)
  /-- `SDOP.BUL_END_C`, R243 -/
  | sdopBulEndC (plen : BitVec 4) (pay : Payload)
  /-- `CRC.CLR`, 45_crc16.md R265 -/
  | crcClr
  /-- `CRC.UPD`, R266 -/
  | crcUpd (len : BitVec 4) (dat : Lanes 8)
  /-- `CRC.RD`, R267 -/
  | crcRd
  /-- `CRC.CHK`, R268 -/
  | crcChk (crc : BitVec 16)
  /-- `WIRE.REC.W`, 30_encoding.md R61 -/
  | wireRecW (w : BitVec 32)
  /-- `WIRE.COB`, R63 -/
  | wireCob (id : BitVec 11)
  /-- `WIRE.SDO.ABORT`, R75 kind 0 -/
  | wireSdoAbort (pay : Payload)
  /-- `WIRE.SDO.SUBBLK`, R75 kind 1 -/
  | wireSdoSubblk (pay : Payload)
  /-- `WIRE.SDO.DL_INIT_C`, R75 kind 2 -/
  | wireSdoDlInitC (pay : Payload)
  /-- `WIRE.SDO.DL_INIT_S`, R75 kind 3 -/
  | wireSdoDlInitS (pay : Payload)
  /-- `WIRE.SDO.DL_SEG_C`, R75 kind 4 -/
  | wireSdoDlSegC (pay : Payload)
  /-- `WIRE.SDO.DL_SEG_S`, R75 kind 5 -/
  | wireSdoDlSegS (pay : Payload)
  /-- `WIRE.SDO.UL_INIT_C`, R75 kind 6 -/
  | wireSdoUlInitC (pay : Payload)
  /-- `WIRE.SDO.UL_INIT_S`, R75 kind 7 -/
  | wireSdoUlInitS (pay : Payload)
  /-- `WIRE.SDO.UL_SEG_C`, R75 kind 8 -/
  | wireSdoUlSegC (pay : Payload)
  /-- `WIRE.SDO.UL_SEG_S`, R75 kind 9 -/
  | wireSdoUlSegS (pay : Payload)
  /-- `WIRE.SDO.BDL_INIT_C`, R75 kind 10 -/
  | wireSdoBdlInitC (pay : Payload)
  /-- `WIRE.SDO.BDL_INIT_S`, R75 kind 11 -/
  | wireSdoBdlInitS (pay : Payload)
  /-- `WIRE.SDO.BDL_ACK_S`, R75 kind 12 -/
  | wireSdoBdlAckS (pay : Payload)
  /-- `WIRE.SDO.BDL_END_C`, R75 kind 13 -/
  | wireSdoBdlEndC (pay : Payload)
  /-- `WIRE.SDO.BDL_END_S`, R75 kind 14 -/
  | wireSdoBdlEndS (pay : Payload)
  /-- `WIRE.SDO.BUL_INIT_C`, R75 kind 15 -/
  | wireSdoBulInitC (pay : Payload)
  /-- `WIRE.SDO.BUL_INIT_S`, R75 kind 16 -/
  | wireSdoBulInitS (pay : Payload)
  /-- `WIRE.SDO.BUL_START_C`, R75 kind 17 -/
  | wireSdoBulStartC (pay : Payload)
  /-- `WIRE.SDO.BUL_ACK_C`, R75 kind 18 -/
  | wireSdoBulAckC (pay : Payload)
  /-- `WIRE.SDO.BUL_END_S`, R75 kind 19 -/
  | wireSdoBulEndS (pay : Payload)
  /-- `WIRE.SDO.BUL_END_C`, R75 kind 20 -/
  | wireSdoBulEndC (pay : Payload)
  deriving DecidableEq, Repr

end Sys2Proof
end

