-- ==== Sys2Proof/Machine/Operands.lean ====
section
/-! DEFINITION. Operand forms: byte order, bit fields and lanes of the byte arrays (00_scope.md R14 to R16), the
low five bits of every command byte (30_encoding.md R76 to R79), and how a command byte is recognised
(R65, R66, R75, R82; 42_sdo_common.md R145). -/

namespace Sys2Proof.Machine

/-! ### Byte order and lanes -/

/-- `le16(B, o)` (R16). -/
def le16 {n : Nat} (b : Lanes n) (o : Nat) (h : o + 1 < n := by decide) : BitVec 16 :=
  b[o + 1] ++ b[o]

/-- `le32(B, o)` (R16). -/
def le32 {n : Nat} (b : Lanes n) (o : Nat) (h : o + 3 < n := by decide) : BitVec 32 :=
  b[o + 3] ++ b[o + 2] ++ b[o + 1] ++ b[o]

/-- `put16(B, o, v)` (R16). -/
def put16 {n : Nat} (b : Lanes n) (o : Nat) (v : BitVec 16) (h : o + 1 < n := by decide) : Lanes n :=
  (b.set o (v.extractLsb' 0 8)).set (o + 1) (v.extractLsb' 8 8)

/-- `put32(B, o, v)` (R16). -/
def put32 {n : Nat} (b : Lanes n) (o : Nat) (v : BitVec 32) (h : o + 3 < n := by decide) : Lanes n :=
  (((b.set o (v.extractLsb' 0 8)).set (o + 1) (v.extractLsb' 8 8)).set (o + 2)
    (v.extractLsb' 16 8)).set (o + 3) (v.extractLsb' 24 8)

/-- `m` lanes read from lane `off` on; lanes at or above the count come back 0 (30_encoding.md R81). -/
def lanesFrom {n : Nat} (src : Lanes n) (off m cnt : Nat) (h : off + m ≤ n := by decide) : Lanes m :=
  Vector.ofFn fun i => if i.val < cnt then src[off + i.val] else 0

/-- The first `cnt` lanes of `src` written from lane `off` of `dst` on; every other lane of `dst` stays. -/
def putLanes {m n : Nat} (dst : Lanes n) (off cnt : Nat) (src : Lanes m) : Lanes n :=
  Vector.ofFn fun i =>
    if h : off ≤ i.val ∧ i.val - off < cnt ∧ i.val - off < m then src[i.val - off] else dst[i.val]

/-! ### Fields of a command byte -/

/-- `PAY[0][7:5]`, the command specifier (30_encoding.md R64). -/
def cmdSpec (b0 : Byte) : BitVec 3 := b0.extractLsb' 5 3

/-- Bits 1:0, the block subcommand as it stands (R66). -/
def subField (b0 : Byte) : BitVec 2 := b0.extractLsb' 0 2

/-- Bits 3:2, `n` of an initiate (R76). -/
def initN (b0 : Byte) : BitVec 2 := b0.extractLsb' 2 2

/-- Bits 3:1, `n` of a segment (R77). -/
def segN (b0 : Byte) : BitVec 3 := b0.extractLsb' 1 3

/-- Bits 4:2, `n` of a block-end (R78 (c)). -/
def endN (b0 : Byte) : BitVec 3 := b0.extractLsb' 2 3

/-- Bits 6:0, `seqno` of a sub-block (R79). -/
def seqField (b0 : Byte) : BitVec 7 := b0.extractLsb' 0 7

/-- Low bits of `B0-INIT`: `xnnes` (R76). -/
def initLow (n : BitVec 2) (e s : Bool) : BitVec 5 :=
  0#1 ++ n ++ BitVec.ofBool e ++ BitVec.ofBool s

/-- Low bits of `B0-SEG`: `tnnnc` (R77). -/
def segLow (t : Bool) (n : BitVec 3) (c : Bool) : BitVec 5 :=
  BitVec.ofBool t ++ n ++ BitVec.ofBool c

/-- Low bits of a block initiate that carries `s`: `xxfs0` (R78 (a)). -/
def blkSizeLow (crcsup s : Bool) : BitVec 5 :=
  0#2 ++ BitVec.ofBool crcsup ++ BitVec.ofBool s ++ 0#1

/-- Low bits of a block initiate without `s`: `xxf00` (R78 (b)). -/
def blkWindowLow (crcsup : Bool) : BitVec 5 :=
  0#2 ++ BitVec.ofBool crcsup ++ Config.subInitiate

/-- Low bits of a block-end with data: `nnn01` (R78 (c)). -/
def blkEndLow (n : BitVec 3) : BitVec 5 := n ++ Config.subEnd

/-- Low bits of every other block kind: `xxx` and the subcommand (R78 (d)). -/
def blkLow (sub : BitVec 2) : BitVec 5 := 0#3 ++ sub

/-- `len = 4 - n`: the valid bytes of an expedited initiate (R71). -/
def initLen (n : BitVec 2) : BitVec 4 := 4 - n.setWidth 4

/-- `len = 7 - n`: the valid bytes of a segment (R71). -/
def segLen (n : BitVec 3) : BitVec 4 := 7 - n.setWidth 4

/-- `n = 4 - len` on two bits (R71). -/
def initUnused (len : BitVec 4) : BitVec 2 := (4 - len).setWidth 2

/-- `n = 7 - len` on three bits (R71). -/
def segUnused (len : BitVec 4) : BitVec 3 := (7 - len).setWidth 3

/-! ### The identifier word and the COB-ID -/

/-- `W` of `F-REC`: `ext`, `rtr`, `err`, `arb_id` from bit 31 down (R61). -/
def recordWord (arbId : BitVec 29) (ext rtr err : Bool) : BitVec 32 :=
  BitVec.ofBool ext ++ BitVec.ofBool rtr ++ BitVec.ofBool err ++ arbId

/-- `arb_id` of `W` (R61). -/
def wordArbId (w : BitVec 32) : BitVec 29 := w.extractLsb' 0 29

/-- `cob = fc4 << 7 | node7` (R63). -/
def cobOf (fc4 : BitVec 4) (node7 : BitVec 7) : BitVec 11 := fc4 ++ node7

/-- `cob[10:7]` (R63). -/
def cobFc (cob : BitVec 11) : BitVec 4 := cob.extractLsb' 7 4

/-- `cob[6:0]` (R63). -/
def cobNode (cob : BitVec 11) : BitVec 7 := cob.extractLsb' 0 7

/-! ### Message kinds -/

/-- The kind numbers of R75, the result field `kind`. -/
def kindNumber : Kind → BitVec 5
  | .abort => 0 | .subblk => 1 | .dlInitC => 2 | .dlInitS => 3 | .dlSegC => 4 | .dlSegS => 5
  | .ulInitC => 6 | .ulInitS => 7 | .ulSegC => 8 | .ulSegS => 9
  | .bdlInitC => 10 | .bdlInitS => 11 | .bdlAckS => 12 | .bdlEndC => 13 | .bdlEndS => 14
  | .bulInitC => 15 | .bulInitS => 16 | .bulStartC => 17 | .bulAckC => 18 | .bulEndS => 19
  | .bulEndC => 20

/-- The command specifier of a kind (R75, column "cs parameter"); a sub-block has none. -/
def kindCs (m : CsMap) : Kind → Option (BitVec 3)
  | .abort => some Config.csAbort
  | .subblk => none
  | .dlInitC => some m.ccsDlInit
  | .dlInitS => some m.scsDlInit
  | .dlSegC => some m.ccsDlSeg
  | .dlSegS => some m.scsDlSeg
  | .ulInitC => some m.ccsUlInit
  | .ulInitS => some m.scsUlInit
  | .ulSegC => some m.ccsUlSeg
  | .ulSegS => some m.scsUlSeg
  | .bdlInitC | .bdlEndC => some m.ccsBlkDl
  | .bdlInitS | .bdlAckS | .bdlEndS => some m.scsBlkDl
  | .bulInitC | .bulStartC | .bulAckC | .bulEndC => some m.ccsBlkUl
  | .bulInitS | .bulEndS => some m.scsBlkUl

/-- The bits of byte 0 that R75 fixes below the command specifier, as a mask and the value under it. -/
def kindLowPattern (m : CsMap) : Kind → BitVec 5 × BitVec 5
  | .bdlInitC | .bulInitS => (1, 0)
  | .bdlInitS | .bulInitC => (3, 0)
  | .bdlEndC | .bdlEndS | .bulEndS | .bulEndC => (3, 1)
  | .bdlAckS | .bulAckC => (3, 2)
  | .bulStartC => (3, 0#3 ++ m.subStart)
  | _ => (0, 0)

/-- Byte 0 has the pattern R75 gives the kind. A sub-block has only its range: `seqno` is 1 to 127 (R79). -/
def matchesKind (m : CsMap) (k : Kind) (b0 : Byte) : Bool :=
  match kindCs m k with
  | none => seqField b0 != 0
  | some cs =>
    cmdSpec b0 == cs && (b0.setWidth 5 &&& (kindLowPattern m k).1) == (kindLowPattern m k).2

/-- `blk_sub(dir, cs, b0)` (R66). -/
def blkSub (m : CsMap) (dir : Sender) (cs : BitVec 3) (b0 : Byte) : BitVec 2 :=
  let carriesS := (dir == .client && cs == m.ccsBlkDl) || (dir == .server && cs == m.scsBlkUl)
  if carriesS && !b0.getLsbD 0 then Config.subInitiate else subField b0

/-- The kind `SDO.IDENT` finds for a client's command byte (42_sdo_common.md R145). -/
def identClient (m : CsMap) (b0 : Byte) : Option Kind :=
  let cs := cmdSpec b0
  if cs == m.ccsDlSeg then some .dlSegC
  else if cs == m.ccsDlInit then some .dlInitC
  else if cs == m.ccsUlInit then some .ulInitC
  else if cs == m.ccsUlSeg then some .ulSegC
  else if cs == m.ccsBlkDl then
    let sub := blkSub m .client cs b0
    if sub == Config.subInitiate then some .bdlInitC
    else if sub == Config.subEnd then some .bdlEndC
    else none
  else if cs == m.ccsBlkUl then
    let sub := blkSub m .client cs b0
    if sub == Config.subInitiate then some .bulInitC
    else if sub == Config.subEnd then some .bulEndC
    else if sub == Config.subResponse then some .bulAckC
    else some .bulStartC
  else none

/-- The kind `SDO.IDENT` finds for a server's command byte (R145). -/
def identServer (m : CsMap) (b0 : Byte) : Option Kind :=
  let cs := cmdSpec b0
  if cs == m.scsUlSeg then some .ulSegS
  else if cs == m.scsDlSeg then some .dlSegS
  else if cs == m.scsUlInit then some .ulInitS
  else if cs == m.scsDlInit then some .dlInitS
  else if cs == m.scsBlkDl then
    let sub := blkSub m .server cs b0
    if sub == Config.subInitiate then some .bdlInitS
    else if sub == Config.subEnd then some .bdlEndS
    else if sub == Config.subResponse then some .bdlAckS
    else none
  else if cs == m.scsBlkUl then
    let sub := blkSub m .server cs b0
    if sub == Config.subInitiate then some .bulInitS
    else if sub == Config.subEnd then some .bulEndS
    else none
  else none

/-- The envelope kind that a command byte spells for its sender, `none` where it is unrecognised (R82, R145). -/
def identKind (m : CsMap) (dir : Sender) (b0 : Byte) : Option Kind :=
  if cmdSpec b0 == Config.csAbort then some .abort
  else
    match dir with
    | .client => identClient m b0
    | .server => identServer m b0

/-- Byte 0 of an abort as it is built, which `SDOP.SUBBLK` takes for one (R79, 44_sdo_block.md R221). -/
def abortByte : Byte := 0x80

end Sys2Proof.Machine
end

