-- ==== Sys2Proof/WellFormed.lean ====
section
/-! DEFINITION. Which instructions are well formed. Every operand field of an operation has the width of
10_state.md R23 by its type, and every value of it may be issued (a value out of range completes with
`BAD_OPERAND`, 60_exceptions.md R334), so an operation is always well formed. An item of a `WIRE.SDO` row is well
formed when its byte 0 has the pattern 30_encoding.md R75 gives the kind (a sub-block: `seqno` 1 to 127, R79). -/

namespace Sys2Proof

/-- The kind a `WIRE.SDO` instruction stands for, with its payload. -/
def Instr.wireKind : Instr → Option (Kind × Payload)
  | .wireSdoAbort p => some (.abort, p)
  | .wireSdoSubblk p => some (.subblk, p)
  | .wireSdoDlInitC p => some (.dlInitC, p)
  | .wireSdoDlInitS p => some (.dlInitS, p)
  | .wireSdoDlSegC p => some (.dlSegC, p)
  | .wireSdoDlSegS p => some (.dlSegS, p)
  | .wireSdoUlInitC p => some (.ulInitC, p)
  | .wireSdoUlInitS p => some (.ulInitS, p)
  | .wireSdoUlSegC p => some (.ulSegC, p)
  | .wireSdoUlSegS p => some (.ulSegS, p)
  | .wireSdoBdlInitC p => some (.bdlInitC, p)
  | .wireSdoBdlInitS p => some (.bdlInitS, p)
  | .wireSdoBdlAckS p => some (.bdlAckS, p)
  | .wireSdoBdlEndC p => some (.bdlEndC, p)
  | .wireSdoBdlEndS p => some (.bdlEndS, p)
  | .wireSdoBulInitC p => some (.bulInitC, p)
  | .wireSdoBulInitS p => some (.bulInitS, p)
  | .wireSdoBulStartC p => some (.bulStartC, p)
  | .wireSdoBulAckC p => some (.bulAckC, p)
  | .wireSdoBulEndS p => some (.bulEndS, p)
  | .wireSdoBulEndC p => some (.bulEndC, p)
  | _ => none

/-- Well-formedness under a command-specifier map. -/
def Instr.wellFormed (m : CsMap) (i : Instr) : Bool :=
  match i.wireKind with
  | some (k, p) => Machine.matchesKind m k p[0]
  | none => true

end Sys2Proof
end

