-- ==== Sys2Proof/Decode.lean ====
section
/-! DEFINITION. The decoder, total on whatever stands at the port, rejecting by name; then the encoder.
An operation is selected by `op` alone and takes its own fields of the operand bundle (30_encoding.md R90 to R92);
a wire item is recognised by its format and, for an envelope, its sender and command byte (R60, R65, R82). -/

namespace Sys2Proof

/-- Why the decoder rejects what stands at the port. -/
inductive DecodeError where
  /-- `op` is none of the 52 values of R91 (R92) -/
  | illegalOp (sel : BitVec 8)
  /-- the command byte is unrecognised for its sender (R82) -/
  | unrecognisedCommand (dir : Sender) (b0 : Byte)
  /-- byte 0 of a sub-block is 0x00: sequence number 0 (R84, 44_sdo_block.md R221) -/
  | sequenceZero
  deriving DecidableEq, Repr

/-- Lanes 0 to 3 of `D`, the expedited data (10_state.md R23). -/
def firstFour (d : Lanes 7) : Lanes 4 := Machine.lanesFrom d 0 4 4

/-- The operation `op` selects, with its operands (30_encoding.md R91). -/
def decodeOp (sel : BitVec 8) (o : OperandBundle) : Except DecodeError Instr :=
  match sel.toNat with
  | 0x10 => .ok (.canfEnc o.arbId o.ext o.rtr o.err o.dlc o.dat)
  | 0x11 => .ok (.canfDec o.recLen o.record)
  | 0x20 => .ok (.cobCompose o.fc o.node)
  | 0x21 => .ok (.cobDecompose o.cob)
  | 0x22 => .ok (.cobClassify o.arbId o.ext o.rtr o.err)
  | 0x30 => .ok (.sdoIdent o.dir o.plen o.pay)
  | 0x40 => .ok (.sdobAbort o.index o.subidx o.code)
  | 0x41 => .ok (.sdobSubblk o.c o.seqno o.len o.d)
  | 0x42 => .ok (.sdobDlInitC o.index o.subidx o.e o.s o.len (firstFour o.d) o.size)
  | 0x43 => .ok (.sdobDlInitS o.index o.subidx)
  | 0x44 => .ok (.sdobDlSegC o.t o.c o.len o.d)
  | 0x45 => .ok (.sdobDlSegS o.t)
  | 0x46 => .ok (.sdobUlInitC o.index o.subidx)
  | 0x47 => .ok (.sdobUlInitS o.index o.subidx o.e o.s o.len (firstFour o.d) o.size)
  | 0x48 => .ok (.sdobUlSegC o.t)
  | 0x49 => .ok (.sdobUlSegS o.t o.c o.len o.d)
  | 0x4A => .ok (.sdobBdlInitC o.index o.subidx o.crcsup o.s o.size)
  | 0x4B => .ok (.sdobBdlInitS o.index o.subidx o.crcsup o.blksize)
  | 0x4C => .ok (.sdobBdlAckS o.ackseq o.blksize)
  | 0x4D => .ok (.sdobBdlEndC o.n o.crc)
  | 0x4E => .ok .sdobBdlEndS
  | 0x4F => .ok (.sdobBulInitC o.index o.subidx o.crcsup o.blksize)
  | 0x50 => .ok (.sdobBulInitS o.index o.subidx o.crcsup o.s o.size)
  | 0x51 => .ok .sdobBulStartC
  | 0x52 => .ok (.sdobBulAckC o.ackseq o.blksize)
  | 0x53 => .ok (.sdobBulEndS o.n o.crc)
  | 0x54 => .ok .sdobBulEndC
  | 0x60 => .ok (.sdopAbort o.plen o.pay)
  | 0x61 => .ok (.sdopSubblk o.plen o.pay)
  | 0x62 => .ok (.sdopDlInitC o.plen o.pay)
  | 0x63 => .ok (.sdopDlInitS o.plen o.pay)
  | 0x64 => .ok (.sdopDlSegC o.plen o.pay)
  | 0x65 => .ok (.sdopDlSegS o.plen o.pay)
  | 0x66 => .ok (.sdopUlInitC o.plen o.pay)
  | 0x67 => .ok (.sdopUlInitS o.plen o.pay)
  | 0x68 => .ok (.sdopUlSegC o.plen o.pay)
  | 0x69 => .ok (.sdopUlSegS o.plen o.pay)
  | 0x6A => .ok (.sdopBdlInitC o.plen o.pay)
  | 0x6B => .ok (.sdopBdlInitS o.plen o.pay)
  | 0x6C => .ok (.sdopBdlAckS o.plen o.pay)
  | 0x6D => .ok (.sdopBdlEndC o.plen o.pay)
  | 0x6E => .ok (.sdopBdlEndS o.plen o.pay)
  | 0x6F => .ok (.sdopBulInitC o.plen o.pay)
  | 0x70 => .ok (.sdopBulInitS o.plen o.pay)
  | 0x71 => .ok (.sdopBulStartC o.plen o.pay)
  | 0x72 => .ok (.sdopBulAckC o.plen o.pay)
  | 0x73 => .ok (.sdopBulEndS o.plen o.pay)
  | 0x74 => .ok (.sdopBulEndC o.plen o.pay)
  | 0x80 => .ok .crcClr
  | 0x81 => .ok (.crcUpd o.len o.dat)
  | 0x82 => .ok .crcRd
  | 0x83 => .ok (.crcChk o.crc)
  | _ => .error (.illegalOp sel)

/-- The `WIRE.SDO` row of a kind. -/
def wireInstr (pay : Payload) : Kind → Instr
  | .abort => .wireSdoAbort pay
  | .subblk => .wireSdoSubblk pay
  | .dlInitC => .wireSdoDlInitC pay
  | .dlInitS => .wireSdoDlInitS pay
  | .dlSegC => .wireSdoDlSegC pay
  | .dlSegS => .wireSdoDlSegS pay
  | .ulInitC => .wireSdoUlInitC pay
  | .ulInitS => .wireSdoUlInitS pay
  | .ulSegC => .wireSdoUlSegC pay
  | .ulSegS => .wireSdoUlSegS pay
  | .bdlInitC => .wireSdoBdlInitC pay
  | .bdlInitS => .wireSdoBdlInitS pay
  | .bdlAckS => .wireSdoBdlAckS pay
  | .bdlEndC => .wireSdoBdlEndC pay
  | .bdlEndS => .wireSdoBdlEndS pay
  | .bulInitC => .wireSdoBulInitC pay
  | .bulInitS => .wireSdoBulInitS pay
  | .bulStartC => .wireSdoBulStartC pay
  | .bulAckC => .wireSdoBulAckC pay
  | .bulEndS => .wireSdoBulEndS pay
  | .bulEndC => .wireSdoBulEndC pay

/-- An envelope, recognised by its sender and command byte (R65, R82). -/
def decodeEnvelope (m : CsMap) (dir : Sender) (pay : Payload) : Except DecodeError Instr :=
  match Machine.identKind m dir pay[0] with
  | some k => .ok (wireInstr pay k)
  | none => .error (.unrecognisedCommand dir pay[0])

/-- Eight bytes of the sub-block format; byte 0 = 0x80 is an abort there (R84). -/
def decodeSubblock (pay : Payload) : Except DecodeError Instr :=
  if pay[0] == Machine.abortByte then .ok (.wireSdoAbort pay)
  else if Machine.seqField pay[0] == 0 then .error .sequenceZero
  else .ok (.wireSdoSubblk pay)

/-- The instruction that stands at the port. -/
def decode (m : CsMap) : PortWord → Except DecodeError Instr
  | .op sel o => decodeOp sel o
  | .recWord w => .ok (.wireRecW w)
  | .cobId c => .ok (.wireCob c)
  | .envelope dir pay => decodeEnvelope m dir pay
  | .subblock pay => decodeSubblock pay

/-- A payload whose byte 0 is known and whose other lanes are 0. -/
def commandOnly (b0 : Byte) : Payload := (zeroLanes 8).set 0 b0

/-- The item a row's bits stand for, numbered as the opcode table numbers them: 32 bits are the word of
`WIRE.REC.W`, 16 bits (11 of them used) that of `WIRE.COB`, and 8 bits an operation selector with every operand lane
0, or, where they select no operation, byte 0 of a payload a client sends (assumption 5: the table gives the `WIRE.SDO`
rows 8 bits too, which many selectors share). -/
def tableWord (nbits w : Nat) : PortWord :=
  if nbits = 32 then .recWord (BitVec.ofNat 32 w)
  else if nbits = 16 then .cobId (BitVec.ofNat 11 w)
  else
    let b0 := BitVec.ofNat 8 w
    match decodeOp b0 {}, Machine.identKind CsMap.default .client b0 with
    | .error _, some _ => .envelope .client (commandOnly b0)
    | _, _ => .op b0 {}

/-- What the decoder reads from a row's bits, under the default command-specifier map. -/
def decodeTableWord (nbits w : Nat) : Option Instr :=
  match decode CsMap.default (tableWord nbits w) with
  | .ok i => some i
  | .error _ => none

/-! ### The encoder -/

/-- A bundle with lanes 0 to 3 of `D` driven. -/
def fourLanes (d : Lanes 4) : Lanes 7 := Machine.putLanes (zeroLanes 7) 0 4 d

/-- What a host puts at the port for an instruction: the selector of R91 with the operands of the operation and
every other lane 0, or the item of the wire format. An abort is written as a client's (assumption 8). -/
def encode : Instr → PortWord
  | .canfEnc arbId ext rtr err dlc dat =>
    .op 0x10 { arbId := arbId, ext := ext, rtr := rtr, err := err, dlc := dlc, dat := dat }
  | .canfDec recLen record => .op 0x11 { recLen := recLen, record := record }
  | .cobCompose fc node => .op 0x20 { fc := fc, node := node }
  | .cobDecompose cob => .op 0x21 { cob := cob }
  | .cobClassify arbId ext rtr err => .op 0x22 { arbId := arbId, ext := ext, rtr := rtr, err := err }
  | .sdoIdent dir plen pay => .op 0x30 { dir := dir, plen := plen, pay := pay }
  | .sdobAbort index subidx code => .op 0x40 { index := index, subidx := subidx, code := code }
  | .sdobSubblk c seqno len d => .op 0x41 { c := c, seqno := seqno, len := len, d := d }
  | .sdobDlInitC index subidx e s len d size =>
    .op 0x42 { index := index, subidx := subidx, e := e, s := s, len := len, d := fourLanes d, size := size }
  | .sdobDlInitS index subidx => .op 0x43 { index := index, subidx := subidx }
  | .sdobDlSegC t c len d => .op 0x44 { t := t, c := c, len := len, d := d }
  | .sdobDlSegS t => .op 0x45 { t := t }
  | .sdobUlInitC index subidx => .op 0x46 { index := index, subidx := subidx }
  | .sdobUlInitS index subidx e s len d size =>
    .op 0x47 { index := index, subidx := subidx, e := e, s := s, len := len, d := fourLanes d, size := size }
  | .sdobUlSegC t => .op 0x48 { t := t }
  | .sdobUlSegS t c len d => .op 0x49 { t := t, c := c, len := len, d := d }
  | .sdobBdlInitC index subidx crcsup s size =>
    .op 0x4A { index := index, subidx := subidx, crcsup := crcsup, s := s, size := size }
  | .sdobBdlInitS index subidx crcsup blksize =>
    .op 0x4B { index := index, subidx := subidx, crcsup := crcsup, blksize := blksize }
  | .sdobBdlAckS ackseq blksize => .op 0x4C { ackseq := ackseq, blksize := blksize }
  | .sdobBdlEndC n crc => .op 0x4D { n := n, crc := crc }
  | .sdobBdlEndS => .op 0x4E {}
  | .sdobBulInitC index subidx crcsup blksize =>
    .op 0x4F { index := index, subidx := subidx, crcsup := crcsup, blksize := blksize }
  | .sdobBulInitS index subidx crcsup s size =>
    .op 0x50 { index := index, subidx := subidx, crcsup := crcsup, s := s, size := size }
  | .sdobBulStartC => .op 0x51 {}
  | .sdobBulAckC ackseq blksize => .op 0x52 { ackseq := ackseq, blksize := blksize }
  | .sdobBulEndS n crc => .op 0x53 { n := n, crc := crc }
  | .sdobBulEndC => .op 0x54 {}
  | .sdopAbort plen pay => .op 0x60 { plen := plen, pay := pay }
  | .sdopSubblk plen pay => .op 0x61 { plen := plen, pay := pay }
  | .sdopDlInitC plen pay => .op 0x62 { plen := plen, pay := pay }
  | .sdopDlInitS plen pay => .op 0x63 { plen := plen, pay := pay }
  | .sdopDlSegC plen pay => .op 0x64 { plen := plen, pay := pay }
  | .sdopDlSegS plen pay => .op 0x65 { plen := plen, pay := pay }
  | .sdopUlInitC plen pay => .op 0x66 { plen := plen, pay := pay }
  | .sdopUlInitS plen pay => .op 0x67 { plen := plen, pay := pay }
  | .sdopUlSegC plen pay => .op 0x68 { plen := plen, pay := pay }
  | .sdopUlSegS plen pay => .op 0x69 { plen := plen, pay := pay }
  | .sdopBdlInitC plen pay => .op 0x6A { plen := plen, pay := pay }
  | .sdopBdlInitS plen pay => .op 0x6B { plen := plen, pay := pay }
  | .sdopBdlAckS plen pay => .op 0x6C { plen := plen, pay := pay }
  | .sdopBdlEndC plen pay => .op 0x6D { plen := plen, pay := pay }
  | .sdopBdlEndS plen pay => .op 0x6E { plen := plen, pay := pay }
  | .sdopBulInitC plen pay => .op 0x6F { plen := plen, pay := pay }
  | .sdopBulInitS plen pay => .op 0x70 { plen := plen, pay := pay }
  | .sdopBulStartC plen pay => .op 0x71 { plen := plen, pay := pay }
  | .sdopBulAckC plen pay => .op 0x72 { plen := plen, pay := pay }
  | .sdopBulEndS plen pay => .op 0x73 { plen := plen, pay := pay }
  | .sdopBulEndC plen pay => .op 0x74 { plen := plen, pay := pay }
  | .crcClr => .op 0x80 {}
  | .crcUpd len dat => .op 0x81 { len := len, dat := dat }
  | .crcRd => .op 0x82 {}
  | .crcChk crc => .op 0x83 { crc := crc }
  | .wireRecW w => .recWord w
  | .wireCob id => .cobId id
  | .wireSdoAbort pay => .envelope .client pay
  | .wireSdoSubblk pay => .subblock pay
  | .wireSdoDlInitC pay => .envelope .client pay
  | .wireSdoDlInitS pay => .envelope .server pay
  | .wireSdoDlSegC pay => .envelope .client pay
  | .wireSdoDlSegS pay => .envelope .server pay
  | .wireSdoUlInitC pay => .envelope .client pay
  | .wireSdoUlInitS pay => .envelope .server pay
  | .wireSdoUlSegC pay => .envelope .client pay
  | .wireSdoUlSegS pay => .envelope .server pay
  | .wireSdoBdlInitC pay => .envelope .client pay
  | .wireSdoBdlInitS pay => .envelope .server pay
  | .wireSdoBdlAckS pay => .envelope .server pay
  | .wireSdoBdlEndC pay => .envelope .client pay
  | .wireSdoBdlEndS pay => .envelope .server pay
  | .wireSdoBulInitC pay => .envelope .client pay
  | .wireSdoBulInitS pay => .envelope .server pay
  | .wireSdoBulStartC pay => .envelope .client pay
  | .wireSdoBulAckC pay => .envelope .client pay
  | .wireSdoBulEndS pay => .envelope .server pay
  | .wireSdoBulEndC pay => .envelope .client pay

end Sys2Proof
end

