-- ==== Sys2Proof/Machine/State.lean ====
section
/-! DEFINITION. The state of the block: the one register the spec gives it (10_state.md R21, R26), its build-time
configuration (R27), and the model's two port fields (the host's pending events and the last response). With it
the statuses and the result bundles a response delivers (60_exceptions.md R331, 10_state.md R23). -/

namespace Sys2Proof.Machine

/-- The four non-`OK` statuses (60_exceptions.md R331). Each completes the operation that raises it. -/
inductive Failure where
  /-- `MALFORMED_FRAME` (R332) -/
  | malformedFrame
  /-- `MALFORMED_SDO` (R333) -/
  | malformedSdo
  /-- `BAD_OPERAND` (R334) -/
  | badOperand
  /-- `ILLEGAL_OP` (R335) -/
  | illegalOp
  deriving DecidableEq, Repr

/-- A completion status (R331); a model's status type has five values (93_implementation_defined.md I30). -/
inductive Status where
  | ok
  | failed (f : Failure)
  deriving DecidableEq, Repr

/-- A `CanFrame` (40_canframe.md R100). -/
structure CanFrame where
  arbId : BitVec 29
  ext : Bool
  rtr : Bool
  err : Bool
  dlc : BitVec 4
  dat : Lanes 8
  deriving DecidableEq, Repr

/-- The message classes of `COB.CLASSIFY` (41_cobid.md R126). -/
inductive FrameClass where
  | nmt | syncEmcy | time | pdo | sdoTx | sdoRx | nmtErrCtrl | unassigned | unclassifiable
  deriving DecidableEq, Repr

/-- The results of `COB.CLASSIFY` (R125). -/
structure Classification where
  classifiable : Bool
  cls : FrameClass
  fc4 : BitVec 4
  node7 : BitVec 7
  pdoNum : BitVec 3
  pdoRx : Bool
  deriving DecidableEq, Repr

/-- The fields of an initiate that may carry data (43_sdo_expedited_segmented.md R172). -/
structure InitData where
  index : BitVec 16
  subidx : BitVec 8
  e : Bool
  s : Bool
  n : BitVec 3
  len : BitVec 4
  d : Lanes 4
  size : BitVec 32
  deriving DecidableEq, Repr

/-- The fields of a segment with data (R176). -/
structure SegData where
  t : Bool
  n : BitVec 3
  c : Bool
  len : BitVec 4
  d : Lanes 7
  deriving DecidableEq, Repr

/-- The result bundle of an operation that completed `OK`: one constructor per set of fields that some operation
delivers, so that no other field exists (60_exceptions.md R336, 70_reset_and_hazards.md R376). Where a bundle has
a field `kind` it is the kind of the message. -/
inductive Results where
  /-- no result field: `CRC.CLR`, `CRC.UPD` -/
  | nothing
  /-- `REC`: `CANF.ENC` -/
  | record (r : Record)
  /-- the fields of a frame: `CANF.DEC` -/
  | frame (f : CanFrame)
  /-- `cob`: `COB.COMPOSE` -/
  | cobId (cob : BitVec 11)
  /-- `fc4`, `node7`: `COB.DECOMPOSE` -/
  | cobFields (fc4 : BitVec 4) (node7 : BitVec 7)
  /-- `COB.CLASSIFY` -/
  | classification (c : Classification)
  /-- `kind` alone: `SDO.IDENT` and the parsers of kinds without fields -/
  | kindOnly (kind : Kind)
  /-- `PAY`: every builder -/
  | payload (pay : Payload)
  /-- `kind` = 0 with the fields of an abort -/
  | abort (index : BitVec 16) (subidx : BitVec 8) (code : BitVec 32)
  /-- kinds 2 and 7 -/
  | initData (kind : Kind) (f : InitData)
  /-- kinds 3 and 6 -/
  | initPlain (kind : Kind) (index : BitVec 16) (subidx : BitVec 8)
  /-- kinds 4 and 9 -/
  | segData (kind : Kind) (f : SegData)
  /-- kinds 5 and 8 -/
  | segPlain (kind : Kind) (t : Bool)
  /-- kind 1 -/
  | subblk (c : Bool) (seqno : BitVec 7) (d : Lanes 7)
  /-- kinds 10 and 16 -/
  | blkInitSize (kind : Kind) (index : BitVec 16) (subidx : BitVec 8) (crcsup s : Bool) (size : BitVec 32)
  /-- kinds 11 and 15 -/
  | blkInitWindow (kind : Kind) (index : BitVec 16) (subidx : BitVec 8) (crcsup : Bool) (blksize : BitVec 8)
  /-- kinds 12 and 18 -/
  | blkAck (kind : Kind) (ackseq blksize : BitVec 8)
  /-- kinds 13 and 19 -/
  | blkEnd (kind : Kind) (n : BitVec 3) (crc : BitVec 16)
  /-- `crc`: `CRC.RD` -/
  | crc (crc : BitVec 16)
  /-- `match`: `CRC.CHK` -/
  | crcMatch (isMatch : Bool)
  /-- the fields of the identifier word: the row `WIRE.REC.W` (30_encoding.md R61) -/
  | recordFields (arbId : BitVec 29) (ext rtr err : Bool)
  deriving DecidableEq, Repr

/-- A response: a result bundle with status `OK`, or a failure status and no result (60_exceptions.md R336). -/
inductive Response where
  | ok (r : Results)
  | raised (f : Failure)
  deriving DecidableEq, Repr

/-- What the host may do to the block: issue what stands at the port, or reset it (70_reset_and_hazards.md R361:
reset is an event, not an operation). -/
inductive HostEvent where
  | issue (w : PortWord)
  | reset
  deriving DecidableEq, Repr

/-- The state. -/
structure State where
  /-- `CRCACC`, the spec's one register (10_state.md R26) -/
  crcacc : BitVec 16
  /-- `CsMap`, configuration no step writes (R27; assumption 1) -/
  csMap : CsMap
  /-- the MODEL's: the host's events not yet taken, oldest first (R20, R24; assumption 2) -/
  inputs : List HostEvent
  /-- the MODEL's: the response of the operation completed last, if any (R22, R25; assumption 3) -/
  response : Option Response
  deriving DecidableEq, Repr

/-- The machine right after reset (10_state.md R31, 70_reset_and_hazards.md R361): `CRCACC` is 0x0000, the
configuration has the spec's defaults (R10), the host has issued nothing and no response has been given. -/
def State.reset : State where
  crcacc := 0x0000
  csMap := CsMap.default
  inputs := []
  response := none

/-- Faults: none. Every request gets a response (93_implementation_defined.md, opening; 49_host_sdo_engine.md R306),
so the machine never stops; the non-`OK` statuses are responses (assumption 10). -/
inductive Fault where
  deriving DecidableEq, Repr

/-- Refusals. No instruction is refused: the one constructor is the package's own and nothing answers with it. -/
inductive Refusal where
  /-- An instruction without a meaning yet would be refused so, by its mnemonic. Raised by nobody; safe. -/
  | notModelled (mnemonic : String)
  deriving DecidableEq, Repr

end Sys2Proof.Machine
end

