-- ==== Sys2Proof/Machine/Flags.lean ====
section
/-! DEFINITION. The block has no flags (10_state.md R25). This file holds what the spec computes in their place:
the status codes (60_exceptions.md R331), the range checks behind `BAD_OPERAND` (R334) and `MALFORMED_FRAME`
(R332), and the one-bit verdicts and class numbers of results (41_cobid.md R125, R126; 45_crc16.md R268). -/

namespace Sys2Proof.Machine

/-- The 4-bit status codes (60_exceptions.md R331). -/
def statusCode : Status → BitVec 4
  | .ok => 0
  | .failed .malformedFrame => 1
  | .failed .malformedSdo => 2
  | .failed .badOperand => 3
  | .failed .illegalOp => 4

/-- The status a response carries. -/
def responseStatus : Response → Status
  | .ok _ => .ok
  | .raised f => .failed f

/-- The result bundle a response carries: none after a failure (R336). -/
def responseResults : Response → Option Results
  | .ok r => some r
  | .raised _ => none

/-- The result field `kind`, where a bundle has one (42_sdo_common.md R143). -/
def resultKind : Results → Option Kind
  | .kindOnly k | .initData k _ | .initPlain k _ _ | .segData k _ | .segPlain k _
  | .blkInitSize k _ _ _ _ _ | .blkInitWindow k _ _ _ _ | .blkAck k _ _ | .blkEnd k _ _ => some k
  | .abort _ _ _ => some .abort
  | .subblk _ _ _ => some .subblk
  | .nothing | .record _ | .frame _ | .cobId _ | .cobFields _ _ | .classification _ | .payload _
  | .crc _ | .crcMatch _ | .recordFields _ _ _ _ => none

/-- A count of data lanes of a frame is out of range: above 8 (40_canframe.md R101, 45_crc16.md R266). -/
def badFrameLen (len : BitVec 4) : Bool := decide (Config.maxDlc < len.toNat)

/-- The length of an expedited initiate with its size indicated is out of range (43_sdo_expedited_segmented.md R171). -/
def badInitLen (e s : Bool) (len : BitVec 4) : Bool :=
  e && s && (decide (len.toNat < 1) || decide (Config.expBytes < len.toNat))

/-- The length of a segment or sub-block is out of range (R175, 44_sdo_block.md R220). -/
def badSegLen (len : BitVec 4) : Bool := decide (Config.segBytes < len.toNat)

/-- One of the three checks of `CANF.DEC` fails (40_canframe.md R102). -/
def malformedRecord (recLen : BitVec 8) (r : Record) : Bool :=
  recLen.toNat != Config.recBytes || (r[5] != 0 || r[6] != 0 || r[7] != 0)
    || decide (Config.maxDlc < r[4].toNat)

/-- A frame has a function code and a node ID (41_cobid.md R125). -/
def isClassifiable (arbId : BitVec 29) (ext err : Bool) : Bool :=
  !(ext || err || arbId.extractLsb' 11 18 != 0)

/-- `class_of` (R126). -/
def classOf (fc4 : BitVec 4) : FrameClass :=
  match fc4.toNat with
  | 0 => .nmt
  | 1 => .syncEmcy
  | 2 => .time
  | 11 => .sdoTx
  | 12 => .sdoRx
  | 14 => .nmtErrCtrl
  | 13 => .unassigned
  | 15 => .unassigned
  | _ => .pdo

/-- The `cls` numbers (R126). -/
def classCode : FrameClass → BitVec 4
  | .nmt => 0
  | .syncEmcy => 1
  | .time => 2
  | .pdo => 3
  | .sdoTx => 4
  | .sdoRx => 5
  | .nmtErrCtrl => 6
  | .unassigned => 7
  | .unclassifiable => 15

/-- The function code is one of the eight PDO codes (R125). -/
def isPdoCode (fc4 : BitVec 4) : Bool := decide (3 ≤ fc4.toNat) && decide (fc4.toNat ≤ 10)

/-- `pdo_num` (R125). -/
def pdoNumber (fc4 : BitVec 4) : BitVec 3 :=
  if isPdoCode fc4 then (((fc4 - 3) >>> 1) + 1).setWidth 3 else 0

/-- `pdo_rx` (R125). -/
def pdoReceive (fc4 : BitVec 4) : Bool := isPdoCode fc4 && (fc4 - 3).getLsbD 0

/-- `match` of `CRC.CHK` (45_crc16.md R268). -/
def crcAgrees (crcacc crc : BitVec 16) : Bool := crcacc == crc

end Sys2Proof.Machine
end

