-- ==== Sys2Proof/Machine/Ops.lean ====
section
/-! DEFINITION. The named operations the meanings share: completing an operation, raising a status (the block's only
exception, 60_exceptions.md R336; there is no return, R337), taking the host's next event, reset, and the shared
steps of the SDO builders and parsers (42_sdo_common.md R141, R142; 43_sdo_expedited_segmented.md R171 to R178). -/

namespace Sys2Proof.Machine

/-- One step's outcome on this machine. -/
abbrev StepResult := Host.Outcome State Fault Refusal

/-! ### Responses and host events -/

/-- The state with another response at the port. -/
def State.withResponse (s : State) (r : Response) : State := { s with response := some r }

/-- The state with another accumulator value. -/
def State.withCrcacc (s : State) (v : BitVec 16) : State := { s with crcacc := v }

/-- The state with other pending host events. -/
def State.withInputs (s : State) (es : List HostEvent) : State := { s with inputs := es }

/-- The operation ends with a response; nothing else of the state changes. -/
def deliver (r : Response) (s : State) : StepResult := .next (s.withResponse r)

/-- The operation reaches its end: status `OK` and its result bundle (00_scope.md R18). -/
def complete (r : Results) (s : State) : StepResult := deliver (.ok r) s

/-- `raise <STATUS>`: the operation ends at once with the status, no result field is delivered, `CRCACC` is
unchanged and nothing is recorded (60_exceptions.md R336). -/
def raise (f : Failure) (s : State) : StepResult := deliver (.raised f) s

/-- The status of a request the decoder rejects (60_exceptions.md R335; 30_encoding.md R82, R84). -/
def rejectionStatus : DecodeError → Failure
  | .illegalOp _ => .illegalOp
  | .unrecognisedCommand _ _ => .malformedSdo
  | .sequenceZero => .malformedSdo

/-- A rejected request completes with its status. -/
def reject (e : DecodeError) (s : State) : StepResult := raise (rejectionStatus e) s

/-- The host's next event and the state without it; `none` when the host has issued nothing more. -/
def takeEvent (s : State) : Option (HostEvent × State) :=
  match s.inputs with
  | [] => none
  | e :: rest => some (e, s.withInputs rest)

/-- Reset (70_reset_and_hazards.md R361): `CRCACC` becomes `CRC_INIT` and no response stands; `CsMap` is not
touched; what the host does next is the host's. -/
def hostReset (s : State) : State := { s with crcacc := Config.crcInit, response := none }

/-! ### Building a payload (42_sdo_common.md R141) -/

/-- `begin_build()`. -/
def beginBuild : Payload := zeroLanes 8

/-- `set_cmd(cs, low5)`. -/
def setCmd (cs : BitVec 3) (low5 : BitVec 5) (pay : Payload) : Payload := pay.set 0 (cs ++ low5)

/-- `set_addr(index, subidx)`. -/
def setAddr (index : BitVec 16) (subidx : BitVec 8) (pay : Payload) : Payload :=
  (put16 pay 1 index).set 3 subidx

/-- `build_init_data` (43_sdo_expedited_segmented.md R171). -/
def buildInitData (cs : BitVec 3) (index : BitVec 16) (subidx : BitVec 8) (e s : Bool)
    (len : BitVec 4) (d : Lanes 4) (size : BitVec 32) : Response :=
  if badInitLen e s len then .raised .badOperand
  else
    let n := if e && s then initUnused len else 0
    let pay := setAddr index subidx (setCmd cs (initLow n e s) beginBuild)
    .ok (.payload
      (if e then putLanes pay 4 (if s then len.toNat else 4) d
       else if s then put32 pay 4 size
       else pay))

/-- `build_init_plain` (R173). -/
def buildInitPlain (cs : BitVec 3) (index : BitVec 16) (subidx : BitVec 8) : Response :=
  .ok (.payload (setAddr index subidx (setCmd cs 0 beginBuild)))

/-- `build_seg_data` (R175). -/
def buildSegData (cs : BitVec 3) (t c : Bool) (len : BitVec 4) (d : Lanes 7) : Response :=
  if badSegLen len then .raised .badOperand
  else .ok (.payload (putLanes (setCmd cs (segLow t (segUnused len) c) beginBuild) 1 len.toNat d))

/-- `build_seg_plain` (R177). -/
def buildSegPlain (cs : BitVec 3) (t : Bool) : Response :=
  .ok (.payload (setCmd cs (segLow t 0 false) beginBuild))

/-- The block initiate that carries `s` and a size (44_sdo_block.md R222, R234). -/
def buildBlkInitSize (cs : BitVec 3) (index : BitVec 16) (subidx : BitVec 8) (crcsup s : Bool)
    (size : BitVec 32) : Response :=
  let pay := setAddr index subidx (setCmd cs (blkSizeLow crcsup s) beginBuild)
  .ok (.payload (if s then put32 pay 4 size else pay))

/-- The block initiate that carries a window size (R224, R232). -/
def buildBlkInitWindow (cs : BitVec 3) (index : BitVec 16) (subidx : BitVec 8) (crcsup : Bool)
    (blksize : BitVec 8) : Response :=
  .ok (.payload ((setAddr index subidx (setCmd cs (blkWindowLow crcsup) beginBuild)).set 4 blksize))

/-- The block-response (R226, R238). -/
def buildBlkAck (cs : BitVec 3) (ackseq blksize : BitVec 8) : Response :=
  .ok (.payload (((setCmd cs (blkLow Config.subResponse) beginBuild).set 1 ackseq).set 2 blksize))

/-- The block-end with `n` and a CRC (R228, R240). -/
def buildBlkEnd (cs : BitVec 3) (n : BitVec 3) (crc : BitVec 16) : Response :=
  .ok (.payload (put16 (setCmd cs (blkEndLow n) beginBuild) 1 crc))

/-- A block message that is a subcommand and nothing else (R230, R236, R242). -/
def buildBlkPlain (cs : BitVec 3) (sub : BitVec 2) : Response :=
  .ok (.payload (setCmd cs (blkLow sub) beginBuild))

/-! ### Parsing a payload (42_sdo_common.md R142) -/

/-- `kind` = 0 and the three fields of an abort (R142, R149). -/
def parseAbort (pay : Payload) : Results := .abort (le16 pay 1) pay[3] (le32 pay 4)

/-- The data length of a payload that may be parsed: the frame's must be 8 (R144). -/
def badPlen (plen : BitVec 4) : Bool := plen.toNat != Config.sdoBytes

/-- `expect(dir, want_cs, want_sub)` (R142), then the fields of the kind. -/
def expect (m : CsMap) (dir : Sender) (wantCs : BitVec 3) (wantSub : Option (BitVec 2))
    (plen : BitVec 4) (pay : Payload) (fields : Results) : Response :=
  let cs := cmdSpec pay[0]
  if badPlen plen then .raised .malformedSdo
  else if cs == Config.csAbort && wantCs != Config.csAbort then .ok (parseAbort pay)
  else if cs != wantCs then .raised .malformedSdo
  else
    match wantSub with
    | none => .ok fields
    | some sub => if blkSub m dir cs pay[0] != sub then .raised .malformedSdo else .ok fields

/-- `parse_init_data` (43_sdo_expedited_segmented.md R172). -/
def parseInitData (kind : Kind) (pay : Payload) : Results :=
  let s := pay[0].getLsbD 0
  let e := pay[0].getLsbD 1
  let n := initN pay[0]
  let len : BitVec 4 := if e then (if s then initLen n else 4) else 0
  .initData kind {
    index := le16 pay 1, subidx := pay[3], e := e, s := s, n := n.setWidth 3, len := len,
    d := lanesFrom pay 4 4 len.toNat,
    size := if !e && s then le32 pay 4 else 0 }

/-- `parse_init_plain` (R174). -/
def parseInitPlain (kind : Kind) (pay : Payload) : Results := .initPlain kind (le16 pay 1) pay[3]

/-- `parse_seg_data` (R176). -/
def parseSegData (kind : Kind) (pay : Payload) : Results :=
  let n := segN pay[0]
  .segData kind {
    t := pay[0].getLsbD 4, n := n, c := pay[0].getLsbD 0, len := segLen n,
    d := lanesFrom pay 1 7 (segLen n).toNat }

/-- `parse_seg_plain` (R178). -/
def parseSegPlain (kind : Kind) (pay : Payload) : Results := .segPlain kind (pay[0].getLsbD 4)

/-- The fields of a sub-block, all seven data lanes as they stand (44_sdo_block.md R221). -/
def parseSubblk (pay : Payload) : Results :=
  .subblk (pay[0].getLsbD 7) (seqField pay[0]) (lanesFrom pay 1 7 7)

/-- `SDOP.SUBBLK` on a payload (R221). -/
def expectSubblk (plen : BitVec 4) (pay : Payload) : Response :=
  if badPlen plen then .raised .malformedSdo
  else if pay[0] == abortByte then .ok (parseAbort pay)
  else if seqField pay[0] == 0 then .raised .malformedSdo
  else .ok (parseSubblk pay)

/-- The fields of a block initiate that carries `s` (R223, R235). -/
def parseBlkInitSize (kind : Kind) (pay : Payload) : Results :=
  let s := pay[0].getLsbD 1
  .blkInitSize kind (le16 pay 1) pay[3] (pay[0].getLsbD 2) s (if s then le32 pay 4 else 0)

/-- The fields of a block initiate that carries a window size (R225, R233). -/
def parseBlkInitWindow (kind : Kind) (pay : Payload) : Results :=
  .blkInitWindow kind (le16 pay 1) pay[3] (pay[0].getLsbD 2) pay[4]

/-- The fields of a block-response (R227, R239). -/
def parseBlkAck (kind : Kind) (pay : Payload) : Results := .blkAck kind pay[1] pay[2]

/-- The fields of a block-end with data (R229, R241). -/
def parseBlkEnd (kind : Kind) (pay : Payload) : Results := .blkEnd kind (endN pay[0]) (le16 pay 1)

end Sys2Proof.Machine
end

