-- ==== Sys2Proof/Machine/Cob.lean ====
section
/-! DEFINITION. The COB sub-block: `COB.COMPOSE`, `COB.DECOMPOSE`, `COB.CLASSIFY` (41_cobid.md). -/

namespace Sys2Proof.Machine

/-- `COB.COMPOSE` (41_cobid.md R121): both operands are masked, never refused (30_encoding.md R72). -/
def execCobCompose (fc node : BitVec 8) (s : State) : StepResult :=
  complete (.cobId (cobOf (fc.setWidth 4) (node.setWidth 7))) s

/-- `COB.DECOMPOSE` (R122). -/
def execCobDecompose (cob : BitVec 11) (s : State) : StepResult :=
  complete (.cobFields (cobFc cob) (cobNode cob)) s

/-- The results of `COB.CLASSIFY` (R125); `rtr` does not enter. -/
def classify (arbId : BitVec 29) (ext err : Bool) : Classification :=
  if isClassifiable arbId ext err then
    let cob := arbId.setWidth 11
    { classifiable := true, cls := classOf (cobFc cob), fc4 := cobFc cob, node7 := cobNode cob,
      pdoNum := pdoNumber (cobFc cob), pdoRx := pdoReceive (cobFc cob) }
  else
    { classifiable := false, cls := .unclassifiable, fc4 := 0, node7 := 0, pdoNum := 0, pdoRx := false }

/-- `COB.CLASSIFY` (R125). -/
def execCobClassify (arbId : BitVec 29) (ext _rtr err : Bool) (s : State) : StepResult :=
  complete (.classification (classify arbId ext err)) s

end Sys2Proof.Machine
end

