-- ==== Sys2Proof/Machine/Frame.lean ====
section
/-! DEFINITION. The FRAME sub-block: `CANF.ENC`, `CANF.DEC` (40_canframe.md). -/

namespace Sys2Proof.Machine

/-- The 16-byte record of a frame (40_canframe.md R101; 30_encoding.md R61, R62). -/
def encodeRecord (arbId : BitVec 29) (ext rtr err : Bool) (dlc : BitVec 4) (dat : Lanes 8) : Record :=
  let r := put32 (zeroLanes 16) 0 (recordWord arbId ext rtr err)
  putLanes (r.set 4 (dlc.setWidth 8)) 8 dlc.toNat dat

/-- The frame of a record that passed the checks (R102). -/
def decodeRecord (r : Record) : CanFrame :=
  let w := le32 r 0
  { arbId := wordArbId w, ext := w.getLsbD 31, rtr := w.getLsbD 30, err := w.getLsbD 29,
    dlc := r[4].setWidth 4, dat := lanesFrom r 8 8 r[4].toNat }

/-- `CANF.ENC` (R101). -/
def execCanfEnc (arbId : BitVec 29) (ext rtr err : Bool) (dlc : BitVec 4) (dat : Lanes 8) (s : State) : StepResult :=
  if badFrameLen dlc then raise .badOperand s
  else complete (.record (encodeRecord arbId ext rtr err dlc dat)) s

/-- `CANF.DEC` (R102). -/
def execCanfDec (recLen : BitVec 8) (r : Record) (s : State) : StepResult :=
  if malformedRecord recLen r then raise .malformedFrame s
  else complete (.frame (decodeRecord r)) s

end Sys2Proof.Machine
end

