-- ==== Sys2Proof/Machine/SdoBlock.lean ====
section
/-! DEFINITION. The SDO sub-block, block-transfer kinds: builders and parsers of the sub-block and of the eleven
block envelopes (44_sdo_block.md). -/

namespace Sys2Proof.Machine

/-- `SDOB.SUBBLK` (44_sdo_block.md R220). -/
def execSdobSubblk (c : Bool) (seqno : BitVec 7) (len : BitVec 4) (d : Lanes 7) (s : State) : StepResult :=
  if seqno == 0 || badSegLen len then raise .badOperand s
  else complete (.payload (putLanes (beginBuild.set 0 (BitVec.ofBool c ++ seqno)) 1 len.toNat d)) s

/-- `SDOP.SUBBLK` (R221). -/
def execSdopSubblk (plen : BitVec 4) (pay : Payload) (s : State) : StepResult :=
  deliver (expectSubblk plen pay) s

/-! ### Block download -/

/-- `SDOB.BDL_INIT_C` (R222). -/
def execSdobBdlInitC (index : BitVec 16) (subidx : BitVec 8) (crcsup si : Bool) (size : BitVec 32)
    (s : State) : StepResult :=
  deliver (buildBlkInitSize s.csMap.ccsBlkDl index subidx crcsup si size) s

/-- `SDOP.BDL_INIT_C` (R223). -/
def execSdopBdlInitC (plen : BitVec 4) (pay : Payload) (s : State) : StepResult :=
  deliver (expect s.csMap .client s.csMap.ccsBlkDl (some Config.subInitiate) plen pay
    (parseBlkInitSize .bdlInitC pay)) s

/-- `SDOB.BDL_INIT_S` (R224). -/
def execSdobBdlInitS (index : BitVec 16) (subidx : BitVec 8) (crcsup : Bool) (blksize : BitVec 8)
    (s : State) : StepResult :=
  deliver (buildBlkInitWindow s.csMap.scsBlkDl index subidx crcsup blksize) s

/-- `SDOP.BDL_INIT_S` (R225). -/
def execSdopBdlInitS (plen : BitVec 4) (pay : Payload) (s : State) : StepResult :=
  deliver (expect s.csMap .server s.csMap.scsBlkDl (some Config.subInitiate) plen pay
    (parseBlkInitWindow .bdlInitS pay)) s

/-- `SDOB.BDL_ACK_S` (R226). -/
def execSdobBdlAckS (ackseq blksize : BitVec 8) (s : State) : StepResult :=
  deliver (buildBlkAck s.csMap.scsBlkDl ackseq blksize) s

/-- `SDOP.BDL_ACK_S` (R227). -/
def execSdopBdlAckS (plen : BitVec 4) (pay : Payload) (s : State) : StepResult :=
  deliver (expect s.csMap .server s.csMap.scsBlkDl (some Config.subResponse) plen pay
    (parseBlkAck .bdlAckS pay)) s

/-- `SDOB.BDL_END_C` (R228): the CRC is the operand, `CRCACC` is not read. -/
def execSdobBdlEndC (n : BitVec 3) (crc : BitVec 16) (s : State) : StepResult :=
  deliver (buildBlkEnd s.csMap.ccsBlkDl n crc) s

/-- `SDOP.BDL_END_C` (R229). -/
def execSdopBdlEndC (plen : BitVec 4) (pay : Payload) (s : State) : StepResult :=
  deliver (expect s.csMap .client s.csMap.ccsBlkDl (some Config.subEnd) plen pay
    (parseBlkEnd .bdlEndC pay)) s

/-- `SDOB.BDL_END_S` (R230). -/
def execSdobBdlEndS (s : State) : StepResult :=
  deliver (buildBlkPlain s.csMap.scsBlkDl Config.subEnd) s

/-- `SDOP.BDL_END_S` (R231). -/
def execSdopBdlEndS (plen : BitVec 4) (pay : Payload) (s : State) : StepResult :=
  deliver (expect s.csMap .server s.csMap.scsBlkDl (some Config.subEnd) plen pay (.kindOnly .bdlEndS)) s

/-! ### Block upload -/

/-- `SDOB.BUL_INIT_C` (R232). -/
def execSdobBulInitC (index : BitVec 16) (subidx : BitVec 8) (crcsup : Bool) (blksize : BitVec 8)
    (s : State) : StepResult :=
  deliver (buildBlkInitWindow s.csMap.ccsBlkUl index subidx crcsup blksize) s

/-- `SDOP.BUL_INIT_C` (R233). -/
def execSdopBulInitC (plen : BitVec 4) (pay : Payload) (s : State) : StepResult :=
  deliver (expect s.csMap .client s.csMap.ccsBlkUl (some Config.subInitiate) plen pay
    (parseBlkInitWindow .bulInitC pay)) s

/-- `SDOB.BUL_INIT_S` (R234). -/
def execSdobBulInitS (index : BitVec 16) (subidx : BitVec 8) (crcsup si : Bool) (size : BitVec 32)
    (s : State) : StepResult :=
  deliver (buildBlkInitSize s.csMap.scsBlkUl index subidx crcsup si size) s

/-- `SDOP.BUL_INIT_S` (R235). -/
def execSdopBulInitS (plen : BitVec 4) (pay : Payload) (s : State) : StepResult :=
  deliver (expect s.csMap .server s.csMap.scsBlkUl (some Config.subInitiate) plen pay
    (parseBlkInitSize .bulInitS pay)) s

/-- `SDOB.BUL_START_C` (R236). -/
def execSdobBulStartC (s : State) : StepResult :=
  deliver (buildBlkPlain s.csMap.ccsBlkUl s.csMap.subStart) s

/-- `SDOP.BUL_START_C` (R237). -/
def execSdopBulStartC (plen : BitVec 4) (pay : Payload) (s : State) : StepResult :=
  deliver (expect s.csMap .client s.csMap.ccsBlkUl (some s.csMap.subStart) plen pay (.kindOnly .bulStartC)) s

/-- `SDOB.BUL_ACK_C` (R238). -/
def execSdobBulAckC (ackseq blksize : BitVec 8) (s : State) : StepResult :=
  deliver (buildBlkAck s.csMap.ccsBlkUl ackseq blksize) s

/-- `SDOP.BUL_ACK_C` (R239). -/
def execSdopBulAckC (plen : BitVec 4) (pay : Payload) (s : State) : StepResult :=
  deliver (expect s.csMap .client s.csMap.ccsBlkUl (some Config.subResponse) plen pay
    (parseBlkAck .bulAckC pay)) s

/-- `SDOB.BUL_END_S` (R240). -/
def execSdobBulEndS (n : BitVec 3) (crc : BitVec 16) (s : State) : StepResult :=
  deliver (buildBlkEnd s.csMap.scsBlkUl n crc) s

/-- `SDOP.BUL_END_S` (R241). -/
def execSdopBulEndS (plen : BitVec 4) (pay : Payload) (s : State) : StepResult :=
  deliver (expect s.csMap .server s.csMap.scsBlkUl (some Config.subEnd) plen pay
    (parseBlkEnd .bulEndS pay)) s

/-- `SDOB.BUL_END_C` (R242). -/
def execSdobBulEndC (s : State) : StepResult :=
  deliver (buildBlkPlain s.csMap.ccsBlkUl Config.subEnd) s

/-- `SDOP.BUL_END_C` (R243). -/
def execSdopBulEndC (plen : BitVec 4) (pay : Payload) (s : State) : StepResult :=
  deliver (expect s.csMap .client s.csMap.ccsBlkUl (some Config.subEnd) plen pay (.kindOnly .bulEndC)) s

end Sys2Proof.Machine
end

