-- ==== Sys2Proof/Machine/SdoCommon.lean ====
section
/-! DEFINITION. The SDO sub-block, common part: `SDO.IDENT`, `SDOB.ABORT`, `SDOP.ABORT` (42_sdo_common.md). -/

namespace Sys2Proof.Machine

/-- `SDO.IDENT` (42_sdo_common.md R145). -/
def execSdoIdent (dir : Sender) (plen : BitVec 4) (pay : Payload) (s : State) : StepResult :=
  if badPlen plen then raise .malformedSdo s
  else
    match identKind s.csMap dir pay[0] with
    | some k => complete (.kindOnly k) s
    | none => raise .malformedSdo s

/-- `SDOB.ABORT` (R148). -/
def execSdobAbort (index : BitVec 16) (subidx : BitVec 8) (code : BitVec 32) (s : State) : StepResult :=
  complete (.payload (put32 (setAddr index subidx (setCmd Config.csAbort 0 beginBuild)) 4 code)) s

/-- `SDOP.ABORT` (R149). -/
def execSdopAbort (plen : BitVec 4) (pay : Payload) (s : State) : StepResult :=
  if badPlen plen then raise .malformedSdo s
  else if cmdSpec pay[0] != Config.csAbort then raise .malformedSdo s
  else complete (parseAbort pay) s

end Sys2Proof.Machine
end

