-- ==== Sys2Proof/Machine/SdoTransfer.lean ====
section
/-! DEFINITION. The SDO sub-block, initiate and segment kinds: builders and parsers of the expedited and segmented
transfer (43_sdo_expedited_segmented.md). -/

namespace Sys2Proof.Machine

/-- `SDOB.DL_INIT_C` (43_sdo_expedited_segmented.md R180). -/
def execSdobDlInitC (index : BitVec 16) (subidx : BitVec 8) (e si : Bool) (len : BitVec 4) (d : Lanes 4)
    (size : BitVec 32) (s : State) : StepResult :=
  deliver (buildInitData s.csMap.ccsDlInit index subidx e si len d size) s

/-- `SDOP.DL_INIT_C` (R181). -/
def execSdopDlInitC (plen : BitVec 4) (pay : Payload) (s : State) : StepResult :=
  deliver (expect s.csMap .client s.csMap.ccsDlInit none plen pay (parseInitData .dlInitC pay)) s

/-- `SDOB.DL_INIT_S` (R182). -/
def execSdobDlInitS (index : BitVec 16) (subidx : BitVec 8) (s : State) : StepResult :=
  deliver (buildInitPlain s.csMap.scsDlInit index subidx) s

/-- `SDOP.DL_INIT_S` (R183). -/
def execSdopDlInitS (plen : BitVec 4) (pay : Payload) (s : State) : StepResult :=
  deliver (expect s.csMap .server s.csMap.scsDlInit none plen pay (parseInitPlain .dlInitS pay)) s

/-- `SDOB.DL_SEG_C` (R184). -/
def execSdobDlSegC (t c : Bool) (len : BitVec 4) (d : Lanes 7) (s : State) : StepResult :=
  deliver (buildSegData s.csMap.ccsDlSeg t c len d) s

/-- `SDOP.DL_SEG_C` (R185). -/
def execSdopDlSegC (plen : BitVec 4) (pay : Payload) (s : State) : StepResult :=
  deliver (expect s.csMap .client s.csMap.ccsDlSeg none plen pay (parseSegData .dlSegC pay)) s

/-- `SDOB.DL_SEG_S` (R186). -/
def execSdobDlSegS (t : Bool) (s : State) : StepResult :=
  deliver (buildSegPlain s.csMap.scsDlSeg t) s

/-- `SDOP.DL_SEG_S` (R187). -/
def execSdopDlSegS (plen : BitVec 4) (pay : Payload) (s : State) : StepResult :=
  deliver (expect s.csMap .server s.csMap.scsDlSeg none plen pay (parseSegPlain .dlSegS pay)) s

/-- `SDOB.UL_INIT_C` (R188). -/
def execSdobUlInitC (index : BitVec 16) (subidx : BitVec 8) (s : State) : StepResult :=
  deliver (buildInitPlain s.csMap.ccsUlInit index subidx) s

/-- `SDOP.UL_INIT_C` (R189). -/
def execSdopUlInitC (plen : BitVec 4) (pay : Payload) (s : State) : StepResult :=
  deliver (expect s.csMap .client s.csMap.ccsUlInit none plen pay (parseInitPlain .ulInitC pay)) s

/-- `SDOB.UL_INIT_S` (R190). -/
def execSdobUlInitS (index : BitVec 16) (subidx : BitVec 8) (e si : Bool) (len : BitVec 4) (d : Lanes 4)
    (size : BitVec 32) (s : State) : StepResult :=
  deliver (buildInitData s.csMap.scsUlInit index subidx e si len d size) s

/-- `SDOP.UL_INIT_S` (R191). -/
def execSdopUlInitS (plen : BitVec 4) (pay : Payload) (s : State) : StepResult :=
  deliver (expect s.csMap .server s.csMap.scsUlInit none plen pay (parseInitData .ulInitS pay)) s

/-- `SDOB.UL_SEG_C` (R192). -/
def execSdobUlSegC (t : Bool) (s : State) : StepResult :=
  deliver (buildSegPlain s.csMap.ccsUlSeg t) s

/-- `SDOP.UL_SEG_C` (R193). -/
def execSdopUlSegC (plen : BitVec 4) (pay : Payload) (s : State) : StepResult :=
  deliver (expect s.csMap .client s.csMap.ccsUlSeg none plen pay (parseSegPlain .ulSegC pay)) s

/-- `SDOB.UL_SEG_S` (R194). -/
def execSdobUlSegS (t c : Bool) (len : BitVec 4) (d : Lanes 7) (s : State) : StepResult :=
  deliver (buildSegData s.csMap.scsUlSeg t c len d) s

/-- `SDOP.UL_SEG_S` (R195). -/
def execSdopUlSegS (plen : BitVec 4) (pay : Payload) (s : State) : StepResult :=
  deliver (expect s.csMap .server s.csMap.scsUlSeg none plen pay (parseSegData .ulSegS pay)) s

end Sys2Proof.Machine
end

