-- ==== Sys2Proof/Machine/Wire.lean ====
section
/-! DEFINITION. The 23 rows of spec/opcode_table.json that are wire formats and no operations (30_encoding.md,
opening). What executing one means is the MODEL's choice (assumption 4): the item's fields are read by the row's
layout and parse rules and delivered with status `OK`; an item whose byte 0 is not of its kind is answered as the
parser of the kind answers it. Nothing but the response changes. No value of `op` selects one (R92). -/

namespace Sys2Proof.Machine

/-- `plen` of a payload that stands at the port whole: eight bytes (42_sdo_common.md R144). -/
def wholePlen : BitVec 4 := 8

/-- `WIRE.REC.W` (30_encoding.md R61): the four fields of the identifier word; every word is legal (R80). -/
def execWireRecW (w : BitVec 32) (s : State) : StepResult :=
  complete (.recordFields (wordArbId w) (w.getLsbD 31) (w.getLsbD 30) (w.getLsbD 29)) s

/-- `WIRE.COB` (R63). -/
def execWireCob (id : BitVec 11) (s : State) : StepResult := complete (.cobFields (cobFc id) (cobNode id)) s

/-- `WIRE.SDO.ABORT` (R75 kind 0; 42_sdo_common.md R149). -/
def execWireSdoAbort (pay : Payload) (s : State) : StepResult :=
  if cmdSpec pay[0] != Config.csAbort then raise .malformedSdo s else complete (parseAbort pay) s

/-- `WIRE.SDO.SUBBLK` (R75 kind 1; 44_sdo_block.md R221). -/
def execWireSdoSubblk (pay : Payload) (s : State) : StepResult := deliver (expectSubblk wholePlen pay) s

/-- `WIRE.SDO.DL_INIT_C` (R75 kind 2; 43_sdo_expedited_segmented.md R181). -/
def execWireSdoDlInitC (pay : Payload) (s : State) : StepResult :=
  deliver (expect s.csMap .client s.csMap.ccsDlInit none wholePlen pay (parseInitData .dlInitC pay)) s

/-- `WIRE.SDO.DL_INIT_S` (R75 kind 3; 43_sdo_expedited_segmented.md R183). -/
def execWireSdoDlInitS (pay : Payload) (s : State) : StepResult :=
  deliver (expect s.csMap .server s.csMap.scsDlInit none wholePlen pay (parseInitPlain .dlInitS pay)) s

/-- `WIRE.SDO.DL_SEG_C` (R75 kind 4; 43_sdo_expedited_segmented.md R185). -/
def execWireSdoDlSegC (pay : Payload) (s : State) : StepResult :=
  deliver (expect s.csMap .client s.csMap.ccsDlSeg none wholePlen pay (parseSegData .dlSegC pay)) s

/-- `WIRE.SDO.DL_SEG_S` (R75 kind 5; 43_sdo_expedited_segmented.md R187). -/
def execWireSdoDlSegS (pay : Payload) (s : State) : StepResult :=
  deliver (expect s.csMap .server s.csMap.scsDlSeg none wholePlen pay (parseSegPlain .dlSegS pay)) s

/-- `WIRE.SDO.UL_INIT_C` (R75 kind 6; 43_sdo_expedited_segmented.md R189). -/
def execWireSdoUlInitC (pay : Payload) (s : State) : StepResult :=
  deliver (expect s.csMap .client s.csMap.ccsUlInit none wholePlen pay (parseInitPlain .ulInitC pay)) s

/-- `WIRE.SDO.UL_INIT_S` (R75 kind 7; 43_sdo_expedited_segmented.md R191). -/
def execWireSdoUlInitS (pay : Payload) (s : State) : StepResult :=
  deliver (expect s.csMap .server s.csMap.scsUlInit none wholePlen pay (parseInitData .ulInitS pay)) s

/-- `WIRE.SDO.UL_SEG_C` (R75 kind 8; 43_sdo_expedited_segmented.md R193). -/
def execWireSdoUlSegC (pay : Payload) (s : State) : StepResult :=
  deliver (expect s.csMap .client s.csMap.ccsUlSeg none wholePlen pay (parseSegPlain .ulSegC pay)) s

/-- `WIRE.SDO.UL_SEG_S` (R75 kind 9; 43_sdo_expedited_segmented.md R195). -/
def execWireSdoUlSegS (pay : Payload) (s : State) : StepResult :=
  deliver (expect s.csMap .server s.csMap.scsUlSeg none wholePlen pay (parseSegData .ulSegS pay)) s

/-- `WIRE.SDO.BDL_INIT_C` (R75 kind 10; 44_sdo_block.md R223). -/
def execWireSdoBdlInitC (pay : Payload) (s : State) : StepResult :=
  deliver (expect s.csMap .client s.csMap.ccsBlkDl (some Config.subInitiate) wholePlen pay (parseBlkInitSize .bdlInitC pay)) s

/-- `WIRE.SDO.BDL_INIT_S` (R75 kind 11; 44_sdo_block.md R225). -/
def execWireSdoBdlInitS (pay : Payload) (s : State) : StepResult :=
  deliver (expect s.csMap .server s.csMap.scsBlkDl (some Config.subInitiate) wholePlen pay (parseBlkInitWindow .bdlInitS pay)) s

/-- `WIRE.SDO.BDL_ACK_S` (R75 kind 12; 44_sdo_block.md R227). -/
def execWireSdoBdlAckS (pay : Payload) (s : State) : StepResult :=
  deliver (expect s.csMap .server s.csMap.scsBlkDl (some Config.subResponse) wholePlen pay (parseBlkAck .bdlAckS pay)) s

/-- `WIRE.SDO.BDL_END_C` (R75 kind 13; 44_sdo_block.md R229). -/
def execWireSdoBdlEndC (pay : Payload) (s : State) : StepResult :=
  deliver (expect s.csMap .client s.csMap.ccsBlkDl (some Config.subEnd) wholePlen pay (parseBlkEnd .bdlEndC pay)) s

/-- `WIRE.SDO.BDL_END_S` (R75 kind 14; 44_sdo_block.md R231). -/
def execWireSdoBdlEndS (pay : Payload) (s : State) : StepResult :=
  deliver (expect s.csMap .server s.csMap.scsBlkDl (some Config.subEnd) wholePlen pay (.kindOnly .bdlEndS)) s

/-- `WIRE.SDO.BUL_INIT_C` (R75 kind 15; 44_sdo_block.md R233). -/
def execWireSdoBulInitC (pay : Payload) (s : State) : StepResult :=
  deliver (expect s.csMap .client s.csMap.ccsBlkUl (some Config.subInitiate) wholePlen pay (parseBlkInitWindow .bulInitC pay)) s

/-- `WIRE.SDO.BUL_INIT_S` (R75 kind 16; 44_sdo_block.md R235). -/
def execWireSdoBulInitS (pay : Payload) (s : State) : StepResult :=
  deliver (expect s.csMap .server s.csMap.scsBlkUl (some Config.subInitiate) wholePlen pay (parseBlkInitSize .bulInitS pay)) s

/-- `WIRE.SDO.BUL_START_C` (R75 kind 17; 44_sdo_block.md R237). -/
def execWireSdoBulStartC (pay : Payload) (s : State) : StepResult :=
  deliver (expect s.csMap .client s.csMap.ccsBlkUl (some s.csMap.subStart) wholePlen pay (.kindOnly .bulStartC)) s

/-- `WIRE.SDO.BUL_ACK_C` (R75 kind 18; 44_sdo_block.md R239). -/
def execWireSdoBulAckC (pay : Payload) (s : State) : StepResult :=
  deliver (expect s.csMap .client s.csMap.ccsBlkUl (some Config.subResponse) wholePlen pay (parseBlkAck .bulAckC pay)) s

/-- `WIRE.SDO.BUL_END_S` (R75 kind 19; 44_sdo_block.md R241). -/
def execWireSdoBulEndS (pay : Payload) (s : State) : StepResult :=
  deliver (expect s.csMap .server s.csMap.scsBlkUl (some Config.subEnd) wholePlen pay (parseBlkEnd .bulEndS pay)) s

/-- `WIRE.SDO.BUL_END_C` (R75 kind 20; 44_sdo_block.md R243). -/
def execWireSdoBulEndC (pay : Payload) (s : State) : StepResult :=
  deliver (expect s.csMap .client s.csMap.ccsBlkUl (some Config.subEnd) wholePlen pay (.kindOnly .bulEndC)) s

end Sys2Proof.Machine
end

