-- ==== Sys2Proof/Machine/Dispatch.lean ====
section
/-! DEFINITION. One arm per constructor of Instr, each one direct call of the instruction's meaning. -/

namespace Sys2Proof.Machine

def exec (i : Instr) (s : State) : Host.Outcome State Fault Refusal :=
  match i with
  | .canfEnc arbId ext rtr err dlc dat => Sys2Proof.Machine.execCanfEnc arbId ext rtr err dlc dat s
  | .canfDec recLen record => Sys2Proof.Machine.execCanfDec recLen record s
  | .cobCompose fc node => Sys2Proof.Machine.execCobCompose fc node s
  | .cobDecompose cob => Sys2Proof.Machine.execCobDecompose cob s
  | .cobClassify arbId ext rtr err => Sys2Proof.Machine.execCobClassify arbId ext rtr err s
  | .sdoIdent dir plen pay => Sys2Proof.Machine.execSdoIdent dir plen pay s
  | .sdobAbort index subidx code => Sys2Proof.Machine.execSdobAbort index subidx code s
  | .sdobSubblk c seqno len d => Sys2Proof.Machine.execSdobSubblk c seqno len d s
  | .sdobDlInitC index subidx e si len d size => Sys2Proof.Machine.execSdobDlInitC index subidx e si len d size s
  | .sdobDlInitS index subidx => Sys2Proof.Machine.execSdobDlInitS index subidx s
  | .sdobDlSegC t c len d => Sys2Proof.Machine.execSdobDlSegC t c len d s
  | .sdobDlSegS t => Sys2Proof.Machine.execSdobDlSegS t s
  | .sdobUlInitC index subidx => Sys2Proof.Machine.execSdobUlInitC index subidx s
  | .sdobUlInitS index subidx e si len d size => Sys2Proof.Machine.execSdobUlInitS index subidx e si len d size s
  | .sdobUlSegC t => Sys2Proof.Machine.execSdobUlSegC t s
  | .sdobUlSegS t c len d => Sys2Proof.Machine.execSdobUlSegS t c len d s
  | .sdobBdlInitC index subidx crcsup si size => Sys2Proof.Machine.execSdobBdlInitC index subidx crcsup si size s
  | .sdobBdlInitS index subidx crcsup blksize => Sys2Proof.Machine.execSdobBdlInitS index subidx crcsup blksize s
  | .sdobBdlAckS ackseq blksize => Sys2Proof.Machine.execSdobBdlAckS ackseq blksize s
  | .sdobBdlEndC n crc => Sys2Proof.Machine.execSdobBdlEndC n crc s
  | .sdobBdlEndS => Sys2Proof.Machine.execSdobBdlEndS s
  | .sdobBulInitC index subidx crcsup blksize => Sys2Proof.Machine.execSdobBulInitC index subidx crcsup blksize s
  | .sdobBulInitS index subidx crcsup si size => Sys2Proof.Machine.execSdobBulInitS index subidx crcsup si size s
  | .sdobBulStartC => Sys2Proof.Machine.execSdobBulStartC s
  | .sdobBulAckC ackseq blksize => Sys2Proof.Machine.execSdobBulAckC ackseq blksize s
  | .sdobBulEndS n crc => Sys2Proof.Machine.execSdobBulEndS n crc s
  | .sdobBulEndC => Sys2Proof.Machine.execSdobBulEndC s
  | .sdopAbort plen pay => Sys2Proof.Machine.execSdopAbort plen pay s
  | .sdopSubblk plen pay => Sys2Proof.Machine.execSdopSubblk plen pay s
  | .sdopDlInitC plen pay => Sys2Proof.Machine.execSdopDlInitC plen pay s
  | .sdopDlInitS plen pay => Sys2Proof.Machine.execSdopDlInitS plen pay s
  | .sdopDlSegC plen pay => Sys2Proof.Machine.execSdopDlSegC plen pay s
  | .sdopDlSegS plen pay => Sys2Proof.Machine.execSdopDlSegS plen pay s
  | .sdopUlInitC plen pay => Sys2Proof.Machine.execSdopUlInitC plen pay s
  | .sdopUlInitS plen pay => Sys2Proof.Machine.execSdopUlInitS plen pay s
  | .sdopUlSegC plen pay => Sys2Proof.Machine.execSdopUlSegC plen pay s
  | .sdopUlSegS plen pay => Sys2Proof.Machine.execSdopUlSegS plen pay s
  | .sdopBdlInitC plen pay => Sys2Proof.Machine.execSdopBdlInitC plen pay s
  | .sdopBdlInitS plen pay => Sys2Proof.Machine.execSdopBdlInitS plen pay s
  | .sdopBdlAckS plen pay => Sys2Proof.Machine.execSdopBdlAckS plen pay s
  | .sdopBdlEndC plen pay => Sys2Proof.Machine.execSdopBdlEndC plen pay s
  | .sdopBdlEndS plen pay => Sys2Proof.Machine.execSdopBdlEndS plen pay s
  | .sdopBulInitC plen pay => Sys2Proof.Machine.execSdopBulInitC plen pay s
  | .sdopBulInitS plen pay => Sys2Proof.Machine.execSdopBulInitS plen pay s
  | .sdopBulStartC plen pay => Sys2Proof.Machine.execSdopBulStartC plen pay s
  | .sdopBulAckC plen pay => Sys2Proof.Machine.execSdopBulAckC plen pay s
  | .sdopBulEndS plen pay => Sys2Proof.Machine.execSdopBulEndS plen pay s
  | .sdopBulEndC plen pay => Sys2Proof.Machine.execSdopBulEndC plen pay s
  | .crcClr => Sys2Proof.Machine.execCrcClr s
  | .crcUpd len dat => Sys2Proof.Machine.execCrcUpd len dat s
  | .crcRd => Sys2Proof.Machine.execCrcRd s
  | .crcChk crc => Sys2Proof.Machine.execCrcChk crc s
  | .wireRecW w => Sys2Proof.Machine.execWireRecW w s
  | .wireCob id => Sys2Proof.Machine.execWireCob id s
  | .wireSdoAbort pay => Sys2Proof.Machine.execWireSdoAbort pay s
  | .wireSdoSubblk pay => Sys2Proof.Machine.execWireSdoSubblk pay s
  | .wireSdoDlInitC pay => Sys2Proof.Machine.execWireSdoDlInitC pay s
  | .wireSdoDlInitS pay => Sys2Proof.Machine.execWireSdoDlInitS pay s
  | .wireSdoDlSegC pay => Sys2Proof.Machine.execWireSdoDlSegC pay s
  | .wireSdoDlSegS pay => Sys2Proof.Machine.execWireSdoDlSegS pay s
  | .wireSdoUlInitC pay => Sys2Proof.Machine.execWireSdoUlInitC pay s
  | .wireSdoUlInitS pay => Sys2Proof.Machine.execWireSdoUlInitS pay s
  | .wireSdoUlSegC pay => Sys2Proof.Machine.execWireSdoUlSegC pay s
  | .wireSdoUlSegS pay => Sys2Proof.Machine.execWireSdoUlSegS pay s
  | .wireSdoBdlInitC pay => Sys2Proof.Machine.execWireSdoBdlInitC pay s
  | .wireSdoBdlInitS pay => Sys2Proof.Machine.execWireSdoBdlInitS pay s
  | .wireSdoBdlAckS pay => Sys2Proof.Machine.execWireSdoBdlAckS pay s
  | .wireSdoBdlEndC pay => Sys2Proof.Machine.execWireSdoBdlEndC pay s
  | .wireSdoBdlEndS pay => Sys2Proof.Machine.execWireSdoBdlEndS pay s
  | .wireSdoBulInitC pay => Sys2Proof.Machine.execWireSdoBulInitC pay s
  | .wireSdoBulInitS pay => Sys2Proof.Machine.execWireSdoBulInitS pay s
  | .wireSdoBulStartC pay => Sys2Proof.Machine.execWireSdoBulStartC pay s
  | .wireSdoBulAckC pay => Sys2Proof.Machine.execWireSdoBulAckC pay s
  | .wireSdoBulEndS pay => Sys2Proof.Machine.execWireSdoBulEndS pay s
  | .wireSdoBulEndC pay => Sys2Proof.Machine.execWireSdoBulEndC pay s

end Sys2Proof.Machine
end

