-- ==== Sys2Proof/Machine/Step.lean ====
section
/-! DEFINITION. One step: the block takes the host's next event, resets or decodes and runs what stands at the port,
and is idle when the host has issued nothing (10_state.md R20; 60_exceptions.md R340, R343; 70_reset_and_hazards.md
R361). -/

namespace Sys2Proof.Machine

/-- One step of the machine. -/
def step (s : State) : Host.Outcome State Fault Refusal :=
  match takeEvent s with
  | none => .next s
  | some (.reset, rest) => .next (hostReset rest)
  | some (.issue w, rest) =>
    match decode rest.csMap w with
    | .ok i => exec i rest
    | .error e => reject e rest

/-- The state in which the host issues next what the bits of an opcode-table row spell (assumption 2: a program is
the host's list, put there from outside the machine), before whatever it has still to issue. -/
def State.withFetchWord (s : State) (nbits w : Nat) : State :=
  s.withInputs (.issue (tableWord nbits w) :: s.inputs)

end Sys2Proof.Machine
end

