-- ==== Sys2Proof/Machine/HostSide.lean ====
section
/-! DEFINITION. What stands around the block and is plain data or a plain function of the block's responses: the
pseudo-operations (30_encoding.md R96), and of the host file the abort codes, the phases with their parse operation
and the inbound filter (49_host_sdo_engine.md R286, R287, R296, R297). No rule here adds state or behaviour to the
block, and `step` uses none of it; the engine's transitions, timer and transport are out (00_scope.md R5, R6). -/

namespace Sys2Proof.Machine

/-! ### Issuing operations -/

/-- The response of one operation issued in a state, with the state it leaves. -/
def issueOp (i : Instr) (s : State) : Option (Response × State) :=
  match exec i s with
  | .next t => t.response.map fun r => (r, t)
  | .fault _ => none
  | .refused _ => none

/-- The events by which a host issues a list of operations in order (10_state.md R24). -/
def hostProgram (is : List Instr) : List HostEvent := is.map fun i => .issue (encode i)

/-! ### Pseudo-operations (30_encoding.md R96) -/

/-- The function code an SDO message travels on: 12 from a client, 11 from a server (R96; assumption 14). -/
def sdoFunctionCode : Sender → BitVec 8
  | .client => 12
  | .server => 11

/-- `COB.MSG fc, node, dlc, DAT -> frame` (R96): the three flags are 0. -/
def cobMsg (fc node : BitVec 8) (dlc : BitVec 4) (dat : Lanes 8) (s : State) : Option (CanFrame × State) :=
  match issueOp (.cobCompose fc node) s with
  | some (.ok (.cobId cob), t) =>
    some ({ arbId := cob.setWidth 29, ext := false, rtr := false, err := false, dlc := dlc, dat := dat }, t)
  | _ => none

/-- `TX.SDO sender, node, SDOB.<kind> ... -> REC` (R96). -/
def txSdo (sender : Sender) (node : BitVec 8) (builder : Instr) (s : State) : Option (Record × State) :=
  match issueOp builder s with
  | some (.ok (.payload pay), s1) =>
    match cobMsg (sdoFunctionCode sender) node 8 pay s1 with
    | some (f, s2) =>
      match issueOp (.canfEnc f.arbId f.ext f.rtr f.err f.dlc f.dat) s2 with
      | some (.ok (.record r), s3) => some (r, s3)
      | _ => none
    | none => none
  | _ => none

/-- The eight lanes of up to eight bytes, zero beyond them. -/
def lanesOfList (bytes : List Byte) : Lanes 8 := Vector.ofFn fun i => bytes.getD i.val 0

/-- `CRC.UPD` operations over a byte sequence in groups of up to eight, at most as many as the fuel. -/
def crcUpdates : Nat → List Byte → List Instr
  | 0, _ => []
  | _ + 1, [] => []
  | k + 1, b :: bs =>
    .crcUpd (BitVec.ofNat 4 (min 8 (bs.length + 1))) (lanesOfList (b :: bs)) :: crcUpdates k (bs.drop 7)

/-- `CRC.CALC bytes -> crc` (R96): clear, update in groups of up to eight bytes, read. -/
def crcCalc (bytes : List Byte) : List Instr := .crcClr :: (crcUpdates bytes.length bytes ++ [.crcRd])

/-- The parse operation of a kind, `SDOP.<kind>` (30_encoding.md R91). -/
def parseOp (plen : BitVec 4) (pay : Payload) : Kind → Instr
  | .abort => .sdopAbort plen pay
  | .subblk => .sdopSubblk plen pay
  | .dlInitC => .sdopDlInitC plen pay
  | .dlInitS => .sdopDlInitS plen pay
  | .dlSegC => .sdopDlSegC plen pay
  | .dlSegS => .sdopDlSegS plen pay
  | .ulInitC => .sdopUlInitC plen pay
  | .ulInitS => .sdopUlInitS plen pay
  | .ulSegC => .sdopUlSegC plen pay
  | .ulSegS => .sdopUlSegS plen pay
  | .bdlInitC => .sdopBdlInitC plen pay
  | .bdlInitS => .sdopBdlInitS plen pay
  | .bdlAckS => .sdopBdlAckS plen pay
  | .bdlEndC => .sdopBdlEndC plen pay
  | .bdlEndS => .sdopBdlEndS plen pay
  | .bulInitC => .sdopBulInitC plen pay
  | .bulInitS => .sdopBulInitS plen pay
  | .bulStartC => .sdopBulStartC plen pay
  | .bulAckC => .sdopBulAckC plen pay
  | .bulEndS => .sdopBulEndS plen pay
  | .bulEndC => .sdopBulEndC plen pay

/-! ### The inbound filter (49_host_sdo_engine.md R296; `RX.SDO` of 30_encoding.md R96) -/

/-- What the filter finds in a record. -/
inductive Inbound where
  /-- `CANF.DEC` failed: surfaced to the caller of decode, the transaction goes on -/
  | malformedFrame
  /-- not classifiable, or not an SDO response of the node -/
  | ignored
  /-- the function code matches and the command specifier does not: `abort(ABORT_INVALID_CS)` -/
  | invalidCs
  /-- the peer aborted, with this code; nothing is sent -/
  | peerAbort (code : BitVec 32)
  /-- the expected message, with its fields -/
  | advance (r : Results)
  deriving DecidableEq, Repr

/-- The parse step of the filter. -/
def inboundParse (expected : Kind) (f : CanFrame) (s : State) : Option (Inbound × State) :=
  match issueOp (parseOp f.dlc f.dat expected) s with
  | some (.raised _, t) => some (.invalidCs, t)
  | some (.ok (.abort _ _ code), t) => some (.peerAbort code, t)
  | some (.ok r, t) => some (.advance r, t)
  | none => none

/-- One inbound record, for a transaction with a node that expects a kind (R296). -/
def inbound (node7 : BitVec 7) (expected : Kind) (r : Record) (s : State) : Option (Inbound × State) :=
  match issueOp (.canfDec 16 r) s with
  | some (.raised _, s1) => some (.malformedFrame, s1)
  | some (.ok (.frame f), s1) =>
    match issueOp (.cobClassify f.arbId f.ext f.rtr f.err) s1 with
    | some (.ok (.classification c), s2) =>
      if c.classifiable && c.cls == .sdoTx && c.node7 == node7 then inboundParse expected f s2
      else some (.ignored, s2)
    | _ => none
  | _ => none

/-! ### Phases and abort codes -/

/-- The states of the engine (49_host_sdo_engine.md R287). -/
inductive Phase where
  | idle | downloadInitiateSent | downloadSegmentSent | uploadInitiateSent | uploadSegmentSent
  | blockDownloadInitiateSent | blockDownloadStreaming | blockDownloadAwaitingAck | blockDownloadEndSent
  | blockUploadInitiateSent | blockUploadStreaming | blockUploadEndReceived | done | aborted
  deriving DecidableEq, Repr

/-- The kind a phase expects (R297); in `BlockUploadStreaming` it depends on whether the window that ended with
`c` = 1 has been acknowledged. -/
def phaseExpects (windowAcked : Bool) : Phase → Option Kind
  | .downloadInitiateSent => some .dlInitS
  | .downloadSegmentSent => some .dlSegS
  | .uploadInitiateSent => some .ulInitS
  | .uploadSegmentSent => some .ulSegS
  | .blockDownloadInitiateSent => some .bdlInitS
  | .blockDownloadStreaming => some .bdlAckS
  | .blockDownloadAwaitingAck => some .bdlAckS
  | .blockDownloadEndSent => some .bdlEndS
  | .blockUploadInitiateSent => some .bulInitS
  | .blockUploadStreaming => if windowAcked then some .bulEndS else some .subblk
  | .blockUploadEndReceived => none
  | .idle => none
  | .done => none
  | .aborted => none

/-- `ABORT_TOGGLE` (49_host_sdo_engine.md R286). -/
def abortToggle : BitVec 32 := 0x05030000
/-- `ABORT_TIMEOUT` (R286). -/
def abortTimeout : BitVec 32 := 0x05040000
/-- `ABORT_INVALID_CS` (R286). -/
def abortInvalidCs : BitVec 32 := 0x05040001
/-- `ABORT_WRITE_ONLY` (R286). -/
def abortWriteOnly : BitVec 32 := 0x06010001
/-- `ABORT_READ_ONLY` (R286). -/
def abortReadOnly : BitVec 32 := 0x06010002
/-- `ABORT_NO_OBJECT` (R286). -/
def abortNoObject : BitVec 32 := 0x06020000
/-- `ABORT_NO_SUBINDEX` (R286). -/
def abortNoSubindex : BitVec 32 := 0x06090011
/-- `ABORT_CONNECTION` (R286). -/
def abortConnection : BitVec 32 := 0x060A0023
/-- `ABORT_GENERAL` (R286). -/
def abortGeneral : BitVec 32 := 0x08000000
/-- `ABORT_INVALID_SEQNO` (R286; the spec marks the value as general knowledge). -/
def abortInvalidSeqno : BitVec 32 := 0x05040003
/-- `ABORT_CRC_ERROR` (R286; the spec marks the value as general knowledge). -/
def abortCrcError : BitVec 32 := 0x05040004

end Sys2Proof.Machine
end

