-- ==== Sys2Proof/Safety.lean ====
section
/-! DEFINITION. The terms statements about runs use: what a canonical response is, the invariant of the block, the
equality of frames (40_canframe.md R100), and which instructions may touch `CRCACC` (10_state.md R26). -/

namespace Sys2Proof.Machine

/-- Lanes at or above a count are 0 (30_encoding.md R81). -/
abbrev ZeroFrom {n : Nat} (v : Lanes n) (cnt : Nat) : Prop := ∀ i : Fin n, cnt ≤ i.val → v[i] = 0

/-- What a delivered bundle always satisfies: a record has zero reserved bytes, a length of at most 8 and zero
padding (30_encoding.md R80); data lanes beyond a count are 0 (R81); counts and sizes are those of R71 and
43_sdo_expedited_segmented.md R172; a sub-block has a sequence number of 1 to 127 (R84); a frame that is not
classifiable has class `NONE` and zeros (41_cobid.md R125); and `kind` is one of the kinds the bundle belongs to. -/
def Canonical : Results → Prop
  | .record r => r[4].toNat ≤ 8 ∧ r[5] = 0 ∧ r[6] = 0 ∧ r[7] = 0 ∧ ∀ i : Fin 8, r[4].toNat ≤ i.val → r[8 + i.val] = 0
  | .frame f => f.dlc.toNat ≤ 8 ∧ ZeroFrom f.dat f.dlc.toNat
  | .classification c =>
    if c.classifiable then
      c.cls = classOf c.fc4 ∧ (c.cls = .pdo ↔ c.pdoNum ≠ 0) ∧ c.pdoNum.toNat ≤ 4 ∧ (c.pdoNum = 0 → c.pdoRx = false)
    else c.cls = .unclassifiable ∧ c.fc4 = 0 ∧ c.node7 = 0 ∧ c.pdoNum = 0 ∧ c.pdoRx = false
  | .kindOnly k => k ≠ .subblk
  | .initData k f =>
    (k = .dlInitC ∨ k = .ulInitS) ∧ f.n.toNat ≤ 3 ∧ ZeroFrom f.d f.len.toNat ∧
      (if f.e then 1 ≤ f.len.toNat ∧ f.len.toNat ≤ 4 ∧ f.size = 0 else f.len = 0 ∧ (f.s = false → f.size = 0))
  | .initPlain k _ _ => k = .dlInitS ∨ k = .ulInitC
  | .segData k f => (k = .dlSegC ∨ k = .ulSegS) ∧ f.len.toNat + f.n.toNat = 7 ∧ ZeroFrom f.d f.len.toNat
  | .segPlain k _ => k = .dlSegS ∨ k = .ulSegC
  | .subblk _ seqno _ => seqno ≠ 0
  | .blkInitSize k _ _ _ si size => (k = .bdlInitC ∨ k = .bulInitS) ∧ (si = false → size = 0)
  | .blkInitWindow k _ _ _ _ => k = .bdlInitS ∨ k = .bulInitC
  | .blkAck k _ _ => k = .bdlAckS ∨ k = .bulAckC
  | .blkEnd k _ _ => k = .bdlEndC ∨ k = .bulEndS
  | _ => True

/-- The invariant of the block: its configuration is a legal map (00_scope.md R11) and the response that stands at
the port, if it is a success, delivers a canonical bundle. -/
def Inv (s : State) : Prop :=
  s.csMap.Wf ∧ ∀ r, s.response = some (.ok r) → Canonical r

/-- A frame is valid (40_canframe.md R100). -/
abbrev ValidFrame (f : CanFrame) : Prop := f.dlc.toNat ≤ 8

/-- Equality of frames (R100): every field, and the lanes below the length. -/
abbrev SameFrame (f g : CanFrame) : Prop :=
  f.arbId = g.arbId ∧ f.ext = g.ext ∧ f.rtr = g.rtr ∧ f.err = g.err ∧ f.dlc = g.dlc ∧
    ∀ i : Fin 8, i.val < f.dlc.toNat → f.dat[i] = g.dat[i]

/-- `CANF.ENC` of a frame. -/
def encodeFrameOp (f : CanFrame) : Instr := .canfEnc f.arbId f.ext f.rtr f.err f.dlc f.dat

/-- The operations that write `CRCACC` (10_state.md R26). -/
abbrev WritesCrcacc (i : Instr) : Prop := i = .crcClr ∨ ∃ len dat, i = .crcUpd len dat

/-- The operations that read or write `CRCACC` (R26). -/
abbrev UsesCrcacc (i : Instr) : Prop := WritesCrcacc i ∨ i = .crcRd ∨ ∃ crc, i = .crcChk crc

/-- The state reached by an outcome, if it is one. -/
def nextState : StepResult → Option State
  | .next t => some t
  | .fault _ => none
  | .refused _ => none

/-- The response an outcome delivers. -/
def responseOf (o : StepResult) : Option Response := (nextState o).bind fun t => t.response

/-- An outcome is the same state with one response delivered: `CRCACC`, the configuration and the host's pending
events are as before. -/
abbrev Delivers (o : StepResult) (s : State) (r : Response) : Prop := o = .next { s with response := some r }

/-- The values of `op` that select an operation (30_encoding.md R91). -/
def legalOps : List Nat :=
  [0x10, 0x11, 0x20, 0x21, 0x22, 0x30] ++ (List.range 21).map (0x40 + ·) ++ (List.range 21).map (0x60 + ·)
    ++ [0x80, 0x81, 0x82, 0x83]

/-- Who sends a kind (R75, column "Sender"). -/
def sentBy : Kind → Sender → Bool
  | .abort, _ | .subblk, _ => true
  | .dlInitC, d | .dlSegC, d | .ulInitC, d | .ulSegC, d | .bdlInitC, d | .bdlEndC, d | .bulInitC, d
  | .bulStartC, d | .bulAckC, d | .bulEndC, d => d == .client
  | .dlInitS, d | .dlSegS, d | .ulInitS, d | .ulSegS, d | .bdlInitS, d | .bdlAckS, d | .bdlEndS, d
  | .bulInitS, d | .bulEndS, d => d == .server

/-- The one non-`OK` status an operation can raise, if any (60_exceptions.md R331, R338). -/
def mayRaise : Instr → Option Failure
  | .canfEnc .. | .sdobSubblk .. | .sdobDlInitC .. | .sdobUlInitS .. | .sdobDlSegC .. | .sdobUlSegS ..
  | .crcUpd .. => some .badOperand
  | .canfDec .. => some .malformedFrame
  | .sdoIdent .. | .sdopAbort .. | .sdopSubblk .. | .sdopDlInitC .. | .sdopDlInitS .. | .sdopDlSegC ..
  | .sdopDlSegS .. | .sdopUlInitC .. | .sdopUlInitS .. | .sdopUlSegC .. | .sdopUlSegS .. | .sdopBdlInitC ..
  | .sdopBdlInitS .. | .sdopBdlAckS .. | .sdopBdlEndC .. | .sdopBdlEndS .. | .sdopBulInitC ..
  | .sdopBulInitS .. | .sdopBulStartC .. | .sdopBulAckC .. | .sdopBulEndS .. | .sdopBulEndC .. =>
    some .malformedSdo
  | i => if i.wireKind.isSome then some .malformedSdo else none

/-- `index`, `subidx` and `code` of an abort payload, byte by byte (42_sdo_common.md R142). -/
def abortFields (pay : Payload) : Results :=
  .abort (pay[2] ++ pay[1]) pay[3] (pay[7] ++ pay[6] ++ pay[5] ++ pay[4])

/-- A command byte by its value: the command specifier in bits 7:5, the rest below (30_encoding.md R64). -/
def cmdByte (cs : BitVec 3) (low : Nat) : Byte := BitVec.ofNat 8 (cs.toNat * 32 + low)

/-- The answer of a parser of an envelope kind, as the rules give it (R142, R144; 30_encoding.md R64): a wrong data
length, an abort in place of the kind, a wrong command specifier or subcommand, or the fields. -/
def parserAnswer (want : BitVec 3) (rightSub : Bool) (plen : BitVec 4) (pay : Payload) (fields : Results) : Response :=
  if plen ≠ 8 then .raised .malformedSdo
  else if pay[0].toNat / 32 = 4 ∧ want ≠ 4 then .ok (abortFields pay)
  else if pay[0].toNat / 32 ≠ want.toNat ∨ rightSub = false then .raised .malformedSdo
  else .ok fields

end Sys2Proof.Machine
end

