-- ==== Sys2Proof/Certificates/Slice0/Obligations.lean ====
section
/-! DEFINITION. The statements for the provers. Each docstring names the rule of spec/ it formalises, and the log
entry where a clause is the model's own choice. -/

open Sys2Proof Sys2Proof.Machine

/-! ### Reset, step, decoder -/

/-- 10_state.md R31: after reset `CRCACC` is 0x0000 = `CRC_INIT`, and a `CRC.UPD` issued directly after reset leaves
what it leaves after a `CRC.CLR`. -/
def Obligations.ResetLeavesAccumulatorAtCrcInit : Prop :=
  State.reset.crcacc = 0x0000 ∧ State.reset.crcacc = Config.crcInit ∧
    ∀ (len : BitVec 4) (dat : Lanes 8) (t : State), exec .crcClr State.reset = .next t →
      (nextState (exec (.crcUpd len dat) State.reset)).map State.crcacc =
        (nextState (exec (.crcUpd len dat) t)).map State.crcacc

/-- 70_reset_and_hazards.md R361. That no response stands after a reset and that the host's later events are kept is
the model's choice (log entries 3 and 9). -/
def Obligations.ResetEventClearsAccumulator : Prop :=
  ∀ (s : State) (rest : List HostEvent), s.inputs = .reset :: rest →
    step s = .next { crcacc := 0x0000, csMap := s.csMap, inputs := rest, response := none }

/-- 60_exceptions.md R340, R343: with nothing issued the block is idle. That the last response still stands is the
model's choice (log entry 6). -/
def Obligations.IdleStepKeepsTheState : Prop :=
  ∀ s : State, s.inputs = [] → step s = .next s

/-- 10_state.md R20: a step takes the next request, in issue order, and runs the instruction the decoder reads. How
the host's list stands in State is the model's choice (log entry 2). -/
def Obligations.StepRunsTheDecodedInstruction : Prop :=
  ∀ (s : State) (w : PortWord) (rest : List HostEvent) (i : Instr),
    s.inputs = .issue w :: rest → decode s.csMap w = .ok i → step s = exec i { s with inputs := rest }

/-- 30_encoding.md R92: each of the 204 other values of `op` completes with `ILLEGAL_OP`, gives no result and changes
no state, whatever the operand lanes hold (60_exceptions.md R335). -/
def Obligations.OtherSelectorsCompleteWithIllegalOp : Prop :=
  ((List.range 256).filter fun v => !legalOps.contains v).length = 204 ∧
    ∀ (s : State) (sel : BitVec 8) (opd : OperandBundle) (rest : List HostEvent),
      sel.toNat ∉ legalOps → s.inputs = .issue (.op sel opd) :: rest →
        step s = .next { s with inputs := rest, response := some (.raised .illegalOp) }

/-- 30_encoding.md R91: the 52 operations and the values of `op` that select them. -/
def Obligations.SelectorsNameTheOperations : Prop :=
  ∀ (m : CsMap) (o : OperandBundle),
    decode m (.op 0x10 o) = .ok (.canfEnc o.arbId o.ext o.rtr o.err o.dlc o.dat) ∧
    decode m (.op 0x11 o) = .ok (.canfDec o.recLen o.record) ∧
    decode m (.op 0x20 o) = .ok (.cobCompose o.fc o.node) ∧
    decode m (.op 0x21 o) = .ok (.cobDecompose o.cob) ∧
    decode m (.op 0x22 o) = .ok (.cobClassify o.arbId o.ext o.rtr o.err) ∧
    decode m (.op 0x30 o) = .ok (.sdoIdent o.dir o.plen o.pay) ∧
    decode m (.op 0x40 o) = .ok (.sdobAbort o.index o.subidx o.code) ∧
    decode m (.op 0x41 o) = .ok (.sdobSubblk o.c o.seqno o.len o.d) ∧
    decode m (.op 0x42 o) =
      .ok (.sdobDlInitC o.index o.subidx o.e o.s o.len #v[o.d[0], o.d[1], o.d[2], o.d[3]] o.size) ∧
    decode m (.op 0x43 o) = .ok (.sdobDlInitS o.index o.subidx) ∧
    decode m (.op 0x44 o) = .ok (.sdobDlSegC o.t o.c o.len o.d) ∧
    decode m (.op 0x45 o) = .ok (.sdobDlSegS o.t) ∧
    decode m (.op 0x46 o) = .ok (.sdobUlInitC o.index o.subidx) ∧
    decode m (.op 0x47 o) =
      .ok (.sdobUlInitS o.index o.subidx o.e o.s o.len #v[o.d[0], o.d[1], o.d[2], o.d[3]] o.size) ∧
    decode m (.op 0x48 o) = .ok (.sdobUlSegC o.t) ∧
    decode m (.op 0x49 o) = .ok (.sdobUlSegS o.t o.c o.len o.d) ∧
    decode m (.op 0x4A o) = .ok (.sdobBdlInitC o.index o.subidx o.crcsup o.s o.size) ∧
    decode m (.op 0x4B o) = .ok (.sdobBdlInitS o.index o.subidx o.crcsup o.blksize) ∧
    decode m (.op 0x4C o) = .ok (.sdobBdlAckS o.ackseq o.blksize) ∧
    decode m (.op 0x4D o) = .ok (.sdobBdlEndC o.n o.crc) ∧
    decode m (.op 0x4E o) = .ok .sdobBdlEndS ∧
    decode m (.op 0x4F o) = .ok (.sdobBulInitC o.index o.subidx o.crcsup o.blksize) ∧
    decode m (.op 0x50 o) = .ok (.sdobBulInitS o.index o.subidx o.crcsup o.s o.size) ∧
    decode m (.op 0x51 o) = .ok .sdobBulStartC ∧
    decode m (.op 0x52 o) = .ok (.sdobBulAckC o.ackseq o.blksize) ∧
    decode m (.op 0x53 o) = .ok (.sdobBulEndS o.n o.crc) ∧
    decode m (.op 0x54 o) = .ok .sdobBulEndC ∧
    (∀ k : Kind, decode m (.op (BitVec.ofNat 8 (0x60 + (kindNumber k).toNat)) o) = .ok (parseOp o.plen o.pay k)) ∧
    decode m (.op 0x80 o) = .ok .crcClr ∧
    decode m (.op 0x81 o) = .ok (.crcUpd o.len o.dat) ∧
    decode m (.op 0x82 o) = .ok .crcRd ∧
    decode m (.op 0x83 o) = .ok (.crcChk o.crc)

/-- A few words written out from the encodings: the selectors of R91, and byte 0 of R75 under the default map, which is
general knowledge of the spec (log entry 1). The layout of a table word is the model's choice (log entry 5). -/
def Obligations.SampleWordsDecode : Prop :=
  decodeTableWord 8 0x11 = some (.canfDec 0 (zeroLanes 16)) ∧
    decodeTableWord 8 0x74 = some (.sdopBulEndC 0 (zeroLanes 8)) ∧
    decodeTableWord 8 0xE5 = none ∧
    decode CsMap.default (.op 0x75 {}) = .error (.illegalOp 0x75) ∧
    decodeTableWord 32 0x92345678 = some (.wireRecW 0x92345678) ∧
    decode CsMap.default (.envelope .client #v[0xC6, 0, 0x20, 0, 0x14, 0, 0, 0]) =
      .ok (.wireSdoBdlInitC #v[0xC6, 0, 0x20, 0, 0x14, 0, 0, 0]) ∧
    decode CsMap.default (.envelope .server #v[0xA3, 0, 0, 0, 0, 0, 0, 0]) =
      .error (.unrecognisedCommand .server 0xA3)

/-- Decode and encode agree: whatever a host encodes for a well-formed instruction is read back as it, with every
operand at every value, under every legal map (30_encoding.md R75, R91; the wire items are log entry 4). -/
def Obligations.EncodedInstructionDecodesToItself : Prop :=
  ∀ (m : CsMap) (i : Instr), m.Wf → i.wellFormed m = true → decode m (encode i) = .ok i

/-- What the decoder reads is read again from its encoding (an operation by its selector, 30_encoding.md R91), and it is
well formed. For an operation well-formedness holds by definition; that clause speaks of WIRE items at the port, whose
byte 0 has the pattern of R75 (R82 and R84 are rejected). That such an item stands at the port, and that an abort is
encoded again as a client's envelope, are the model's choices (log entries 4 and 8). -/
def Obligations.DecodedInstructionIsWellFormed : Prop :=
  ∀ (m : CsMap) (w : PortWord) (i : Instr), m.Wf → decode m w = .ok i →
    i.wellFormed m = true ∧ decode m (encode i) = .ok i

/-! ### The whole machine -/

/-- 49_host_sdo_engine.md R306, "every operation completes, with a status"; 20_memory.md R48: whatever the host
issues, the step answers a next state with a response, takes that request and no other, and keeps the map. -/
def Obligations.EveryRequestGetsAResponse : Prop :=
  ∀ (s : State) (w : PortWord) (rest : List HostEvent), s.inputs = .issue w :: rest →
    ∃ (t : State) (r : Response),
      step s = .next t ∧ t.response = some r ∧ t.inputs = rest ∧ t.csMap = s.csMap

/-- The invariant: a legal map and a canonical response (30_encoding.md R80, R81, R84; 41_cobid.md R125). -/
def Obligations.EveryStepKeepsTheInvariant : Prop :=
  ∀ s t : State, Inv s → step s = .next t → Inv t

/-- The invariant holds right after reset. -/
def Obligations.ResetMeetsTheInvariant : Prop := Inv State.reset

/-- 10_state.md R26: only `CRC.CLR` and `CRC.UPD` write `CRCACC`. -/
def Obligations.OtherOperationsKeepCrcacc : Prop :=
  ∀ (i : Instr) (s t : State), ¬WritesCrcacc i → exec i s = .next t →
    t.crcacc = s.crcacc ∧ t.csMap = s.csMap ∧ t.inputs = s.inputs

/-- 60_exceptions.md R336: a raised status delivers no result and changes nothing else, and the next operation is
handled as if the failing one had not been issued. -/
def Obligations.FailureChangesNothing : Prop :=
  ∀ (i : Instr) (s t : State) (f : Failure), exec i s = .next t → t.response = some (.raised f) →
    t = { s with response := some (.raised f) } ∧ ∀ j : Instr, exec j t = exec j s

/-- 10_state.md R26, R30: an operation that does not name `CRCACC` answers the same whatever it holds, whatever was
answered before and whatever the host will issue. -/
def Obligations.OtherOperationsIgnoreCrcacc : Prop :=
  ∀ (i : Instr) (s1 s2 : State), ¬UsesCrcacc i → s1.csMap = s2.csMap →
    responseOf (exec i s1) = responseOf (exec i s2)

/-- 20_memory.md R46: every operation but `CRC.UPD` is idempotent. -/
def Obligations.RepeatedOperationIsIdempotent : Prop :=
  ∀ (i : Instr) (s t : State), (∀ len dat, i ≠ .crcUpd len dat) → exec i s = .next t → exec i t = .next t

/-- 60_exceptions.md R331, R338: an operation can raise only the one status of its row. -/
def Obligations.OperationRaisesOnlyItsOwnStatus : Prop :=
  ∀ (i : Instr) (s : State) (f : Failure), responseOf (exec i s) = some (.raised f) → mayRaise i = some f

/-! ### FRAME (40_canframe.md) -/

/-- R101. -/
def Obligations.CanfEncBuildsTheRecord : Prop :=
  ∀ (s : State) (arbId : BitVec 29) (ext rtr err : Bool) (dlc : BitVec 4) (dat : Lanes 8),
    (8 < dlc.toNat → Delivers (exec (.canfEnc arbId ext rtr err dlc dat) s) s (.raised .badOperand)) ∧
    (dlc.toNat ≤ 8 → ∃ r : Record, Delivers (exec (.canfEnc arbId ext rtr err dlc dat) s) s (.ok (.record r)) ∧
      r[3] ++ r[2] ++ r[1] ++ r[0] = BitVec.ofBool ext ++ BitVec.ofBool rtr ++ BitVec.ofBool err ++ arbId ∧
      r[4].toNat = dlc.toNat ∧ r[5] = 0 ∧ r[6] = 0 ∧ r[7] = 0 ∧
      ∀ i : Fin 8, r[8 + i.val] = if i.val < dlc.toNat then dat[i] else 0)

/-- R102, R104. -/
def Obligations.CanfDecReadsTheFrame : Prop :=
  ∀ (s : State) (recLen : BitVec 8) (r : Record),
    (recLen ≠ 16 ∨ r[5] ≠ 0 ∨ r[6] ≠ 0 ∨ r[7] ≠ 0 ∨ 8 < r[4].toNat →
      Delivers (exec (.canfDec recLen r) s) s (.raised .malformedFrame)) ∧
    (recLen = 16 ∧ r[5] = 0 ∧ r[6] = 0 ∧ r[7] = 0 ∧ r[4].toNat ≤ 8 →
      ∃ f : CanFrame, Delivers (exec (.canfDec recLen r) s) s (.ok (.frame f)) ∧
        BitVec.ofBool f.ext ++ BitVec.ofBool f.rtr ++ BitVec.ofBool f.err ++ f.arbId = r[3] ++ r[2] ++ r[1] ++ r[0] ∧
        f.dlc.toNat = r[4].toNat ∧ ∀ i : Fin 8, f.dat[i] = if i.val < r[4].toNat then r[8 + i.val] else 0)

/-- R103: `decode(encode(f)) == f` for every valid frame, in whatever states the two operations are issued. -/
def Obligations.FrameRoundTrip : Prop :=
  ∀ (s s' : State) (f : CanFrame), ValidFrame f →
    ∃ (r : Record) (g : CanFrame), Delivers (exec (encodeFrameOp f) s) s (.ok (.record r)) ∧
      Delivers (exec (.canfDec 16 r) s') s' (.ok (.frame g)) ∧ SameFrame f g

/-- R105: encoding a decoded record gives the record with its padding zeroed, so it gives the record back exactly
when its padding was zero, and decoding is not injective. -/
def Obligations.ReencodingCleansThePadding : Prop :=
  (∀ (s s' : State) (r : Record) (f : CanFrame), responseOf (exec (.canfDec 16 r) s) = some (.ok (.frame f)) →
    ∃ r' : Record, Delivers (exec (encodeFrameOp f) s') s' (.ok (.record r')) ∧
      (∀ i : Fin 8, r'[i.val] = r[i.val]) ∧
      (∀ i : Fin 8, r'[8 + i.val] = if i.val < r[4].toNat then r[8 + i.val] else 0) ∧
      (r' = r ↔ ∀ i : Fin 8, r[4].toNat ≤ i.val → r[8 + i.val] = 0)) ∧
  ∀ s : State, ∃ r1 r2 : Record, r1 ≠ r2 ∧ exec (.canfDec 16 r1) s = exec (.canfDec 16 r2) s ∧
    ∃ f, responseOf (exec (.canfDec 16 r1) s) = some (.ok (.frame f))

/-- R106. -/
def Obligations.CanfEncIsInjective : Prop :=
  ∀ (s : State) (f g : CanFrame) (r : Record), ValidFrame f → ValidFrame g →
    responseOf (exec (encodeFrameOp f) s) = some (.ok (.record r)) →
    responseOf (exec (encodeFrameOp g) s) = some (.ok (.record r)) → SameFrame f g

/-! ### COB (41_cobid.md) -/

/-- R121 and 30_encoding.md R72. -/
def Obligations.CobComposeMasksItsOperands : Prop :=
  ∀ (s : State) (fc node : BitVec 8), ∃ cob : BitVec 11,
    Delivers (exec (.cobCompose fc node) s) s (.ok (.cobId cob)) ∧
      cob.toNat = (fc.toNat % 16) * 128 + node.toNat % 128

/-- R122. -/
def Obligations.CobDecomposeSplitsTheId : Prop :=
  ∀ (s : State) (cob : BitVec 11), ∃ (fc4 : BitVec 4) (node7 : BitVec 7),
    Delivers (exec (.cobDecompose cob) s) s (.ok (.cobFields fc4 node7)) ∧
      fc4.toNat = cob.toNat / 128 ∧ node7.toNat = cob.toNat % 128

/-- R123, both laws, and the bijection of its last sentence. -/
def Obligations.ComposeAndDecomposeInvert : Prop :=
  (∀ (s s' : State) (id : BitVec 11), ∃ (fc4 : BitVec 4) (node7 : BitVec 7),
    Delivers (exec (.cobDecompose id) s) s (.ok (.cobFields fc4 node7)) ∧
      Delivers (exec (.cobCompose (fc4.setWidth 8) (node7.setWidth 8)) s') s' (.ok (.cobId id))) ∧
  ∀ (s s' : State) (fc node : BitVec 8), ∃ cob : BitVec 11,
    Delivers (exec (.cobCompose fc node) s) s (.ok (.cobId cob)) ∧
      Delivers (exec (.cobDecompose cob) s') s'
        (.ok (.cobFields ((fc &&& 0x0F).setWidth 4) ((node &&& 0x7F).setWidth 7)))

/-- R125. -/
def Obligations.CobClassifyReportsTheClass : Prop :=
  ∀ (s : State) (arbId : BitVec 29) (ext rtr err : Bool),
    (ext = true ∨ err = true ∨ 2048 ≤ arbId.toNat →
      Delivers (exec (.cobClassify arbId ext rtr err) s) s
        (.ok (.classification ⟨false, .unclassifiable, 0, 0, 0, false⟩))) ∧
    (ext = false ∧ err = false ∧ arbId.toNat < 2048 →
      ∃ c : Classification, Delivers (exec (.cobClassify arbId ext rtr err) s) s (.ok (.classification c)) ∧
        c.classifiable = true ∧ c.fc4.toNat = arbId.toNat / 128 ∧ c.node7.toNat = arbId.toNat % 128 ∧
        c.cls = classOf c.fc4 ∧
        c.pdoNum.toNat = (if 3 ≤ c.fc4.toNat ∧ c.fc4.toNat ≤ 10 then (c.fc4.toNat - 3) / 2 + 1 else 0) ∧
        c.pdoRx = decide (3 ≤ c.fc4.toNat ∧ c.fc4.toNat ≤ 10 ∧ (c.fc4.toNat - 3) % 2 = 1))

/-- R126, the table of `class_of`: function code, `cls`, `pdo_num`, `pdo_rx`, for every node and either `rtr`; and
the number of the class of a frame that is not classifiable. -/
def Obligations.FunctionCodeClasses : Prop :=
  (∀ (s : State) (node : BitVec 7) (rtr : Bool) (row : BitVec 4 × BitVec 4 × BitVec 3 × Bool),
    row ∈ [(0, 0, 0, false), (1, 1, 0, false), (2, 2, 0, false), (3, 3, 1, false), (4, 3, 1, true),
      (5, 3, 2, false), (6, 3, 2, true), (7, 3, 3, false), (8, 3, 3, true), (9, 3, 4, false), (10, 3, 4, true),
      (11, 4, 0, false), (12, 5, 0, false), (13, 7, 0, false), (14, 6, 0, false), (15, 7, 0, false)] →
    ∃ cls : FrameClass, classCode cls = row.2.1 ∧
      Delivers (exec (.cobClassify ((row.1 ++ node).setWidth 29) false rtr false) s) s
        (.ok (.classification ⟨true, cls, row.1, node, row.2.2.1, row.2.2.2⟩))) ∧
  classCode .unclassifiable = 15

/-! ### SDO, common part (42_sdo_common.md) -/

/-- R145 with 30_encoding.md R75 and R82: `SDO.IDENT` finds a kind exactly when it is an envelope kind that the sender
sends and byte 0 has its pattern; where there is none, and where `plen` is not 8, the status is `MALFORMED_SDO`. -/
def Obligations.SdoIdentFindsTheKind : Prop :=
  ∀ (s : State) (dir : Sender) (pay : Payload), s.csMap.Wf →
    (∀ k : Kind, Delivers (exec (.sdoIdent dir 8 pay) s) s (.ok (.kindOnly k)) ↔
      (k ≠ .subblk ∧ sentBy k dir = true ∧ matchesKind s.csMap k pay[0] = true)) ∧
    ((∀ k : Kind, k ≠ .subblk → sentBy k dir = true → matchesKind s.csMap k pay[0] = false) →
      Delivers (exec (.sdoIdent dir 8 pay) s) s (.raised .malformedSdo)) ∧
    ∀ plen : BitVec 4, plen ≠ 8 → Delivers (exec (.sdoIdent dir plen pay) s) s (.raised .malformedSdo)

/-- R146, the table on byte 0 for the default map, which is general knowledge of the spec (log entry 1). -/
def Obligations.SdoIdentDefaultTable : Prop :=
  ∀ (s : State) (pay : Payload) (b : Nat), s.csMap = CsMap.default → pay[0].toNat = b →
    Delivers (exec (.sdoIdent .client 8 pay) s) s
      (if b ≤ 0x1F then .ok (.kindOnly .dlSegC)
       else if b ≤ 0x3F then .ok (.kindOnly .dlInitC)
       else if b ≤ 0x5F then .ok (.kindOnly .ulInitC)
       else if b ≤ 0x7F then .ok (.kindOnly .ulSegC)
       else if b ≤ 0x9F then .ok (.kindOnly .abort)
       else if b ≤ 0xBF then
         (if b % 4 = 0 then .ok (.kindOnly .bulInitC)
          else if b % 4 = 1 then .ok (.kindOnly .bulEndC)
          else if b % 4 = 2 then .ok (.kindOnly .bulAckC)
          else .ok (.kindOnly .bulStartC))
       else if b ≤ 0xDF then
         (if b % 2 = 0 then .ok (.kindOnly .bdlInitC)
          else if b % 4 = 1 then .ok (.kindOnly .bdlEndC)
          else .raised .malformedSdo)
       else .raised .malformedSdo) ∧
    Delivers (exec (.sdoIdent .server 8 pay) s) s
      (if b ≤ 0x1F then .ok (.kindOnly .ulSegS)
       else if b ≤ 0x3F then .ok (.kindOnly .dlSegS)
       else if b ≤ 0x5F then .ok (.kindOnly .ulInitS)
       else if b ≤ 0x7F then .ok (.kindOnly .dlInitS)
       else if b ≤ 0x9F then .ok (.kindOnly .abort)
       else if b ≤ 0xBF then
         (if b % 4 = 0 then .ok (.kindOnly .bdlInitS)
          else if b % 4 = 1 then .ok (.kindOnly .bdlEndS)
          else if b % 4 = 2 then .ok (.kindOnly .bdlAckS)
          else .raised .malformedSdo)
       else if b ≤ 0xDF then
         (if b % 2 = 0 then .ok (.kindOnly .bulInitS)
          else if b % 4 = 1 then .ok (.kindOnly .bulEndS)
          else .raised .malformedSdo)
       else .raised .malformedSdo)

/-- R145, corner case (c): `SDO.IDENT` agrees with the parsers. -/
def Obligations.SdoIdentAgreesWithTheParsers : Prop :=
  ∀ (s : State) (dir : Sender) (pay : Payload) (k : Kind), s.csMap.Wf → k ≠ .abort → k ≠ .subblk →
    sentBy k dir = true →
      (responseOf (exec (.sdoIdent dir 8 pay) s) = some (.ok (.kindOnly k)) ↔
        ∃ r : Results, responseOf (exec (parseOp 8 pay k) s) = some (.ok r) ∧ resultKind r = some k)

/-- R148. -/
def Obligations.SdobAbortBuildsThePayload : Prop :=
  ∀ (s : State) (index : BitVec 16) (subidx : BitVec 8) (code : BitVec 32),
    Delivers (exec (.sdobAbort index subidx code) s) s
      (.ok (.payload #v[0x80, index.extractLsb' 0 8, index.extractLsb' 8 8, subidx,
        code.extractLsb' 0 8, code.extractLsb' 8 8, code.extractLsb' 16 8, code.extractLsb' 24 8]))

/-- R149. -/
def Obligations.SdopAbortReadsTheFields : Prop :=
  ∀ (s : State) (plen : BitVec 4) (pay : Payload),
    Delivers (exec (.sdopAbort plen pay) s) s
      (if plen ≠ 8 ∨ pay[0].toNat / 32 ≠ 4 then .raised .malformedSdo else .ok (abortFields pay))

/-- R143: every parser returns an abort with status `OK`: an envelope parser on command specifier 4, `SDOP.SUBBLK` on
byte 0 = 0x80. -/
def Obligations.AbortIsSeenInEveryContext : Prop :=
  ∀ (s : State) (pay : Payload) (k : Kind), s.csMap.Wf →
    (k ≠ .subblk → pay[0].toNat / 32 = 4 → Delivers (exec (parseOp 8 pay k) s) s (.ok (abortFields pay))) ∧
    (k = .subblk → pay[0] = 0x80 → Delivers (exec (parseOp 8 pay k) s) s (.ok (abortFields pay)))

/-- R144 and 60_exceptions.md R339: a payload from a frame whose data length is not 8 is refused by every parser,
an abort too. -/
def Obligations.ShortPayloadIsRefused : Prop :=
  ∀ (s : State) (plen : BitVec 4) (pay : Payload) (k : Kind), plen ≠ 8 →
    Delivers (exec (parseOp plen pay k) s) s (.raised .malformedSdo)

/-! ### SDO builders (43_sdo_expedited_segmented.md, 44_sdo_block.md) -/

/-- R171, R180, R190: the initiate with data. -/
def Obligations.InitiateWithDataIsBuilt : Prop :=
  ∀ (s : State) (index : BitVec 16) (subidx : BitVec 8) (e si : Bool) (len : BitVec 4) (d : Lanes 4)
    (size : BitVec 32),
    (e = true ∧ si = true ∧ (len.toNat = 0 ∨ 4 < len.toNat) →
      Delivers (exec (.sdobDlInitC index subidx e si len d size) s) s (.raised .badOperand) ∧
      Delivers (exec (.sdobUlInitS index subidx e si len d size) s) s (.raised .badOperand)) ∧
    (¬(e = true ∧ si = true ∧ (len.toNat = 0 ∨ 4 < len.toNat)) →
      ∃ p q : Payload, Delivers (exec (.sdobDlInitC index subidx e si len d size) s) s (.ok (.payload p)) ∧
        Delivers (exec (.sdobUlInitS index subidx e si len d size) s) s (.ok (.payload q)) ∧
        p[0] = cmdByte s.csMap.ccsDlInit
          ((if e ∧ si then (4 - len.toNat) * 4 else 0) + e.toNat * 2 + si.toNat) ∧
        q[0] = cmdByte s.csMap.scsUlInit
          ((if e ∧ si then (4 - len.toNat) * 4 else 0) + e.toNat * 2 + si.toNat) ∧
        p[1] = index.extractLsb' 0 8 ∧ p[2] = index.extractLsb' 8 8 ∧ p[3] = subidx ∧
        (∀ i : Fin 4, p[4 + i.val] =
          if e then (if i.val < len.toNat ∨ si = false then d[i] else 0)
          else if si then size.extractLsb' (8 * i.val) 8 else 0) ∧
        ∀ i : Fin 7, q[1 + i.val] = p[1 + i.val])

/-- R173, R177 with R182, R188, R186, R192: the headers without data. -/
def Obligations.PlainInitiateAndSegmentAreBuilt : Prop :=
  ∀ (s : State) (index : BitVec 16) (subidx : BitVec 8) (t : Bool),
    Delivers (exec (.sdobDlInitS index subidx) s) s (.ok (.payload #v[cmdByte s.csMap.scsDlInit 0,
      index.extractLsb' 0 8, index.extractLsb' 8 8, subidx, 0, 0, 0, 0])) ∧
    Delivers (exec (.sdobUlInitC index subidx) s) s (.ok (.payload #v[cmdByte s.csMap.ccsUlInit 0,
      index.extractLsb' 0 8, index.extractLsb' 8 8, subidx, 0, 0, 0, 0])) ∧
    Delivers (exec (.sdobDlSegS t) s) s (.ok (.payload #v[cmdByte s.csMap.scsDlSeg (t.toNat * 16),
      0, 0, 0, 0, 0, 0, 0])) ∧
    Delivers (exec (.sdobUlSegC t) s) s (.ok (.payload #v[cmdByte s.csMap.ccsUlSeg (t.toNat * 16),
      0, 0, 0, 0, 0, 0, 0]))

/-- R175, R184, R194: the segment with data. -/
def Obligations.SegmentWithDataIsBuilt : Prop :=
  ∀ (s : State) (t c : Bool) (len : BitVec 4) (d : Lanes 7),
    (7 < len.toNat →
      Delivers (exec (.sdobDlSegC t c len d) s) s (.raised .badOperand) ∧
      Delivers (exec (.sdobUlSegS t c len d) s) s (.raised .badOperand)) ∧
    (len.toNat ≤ 7 →
      ∃ p q : Payload, Delivers (exec (.sdobDlSegC t c len d) s) s (.ok (.payload p)) ∧
        Delivers (exec (.sdobUlSegS t c len d) s) s (.ok (.payload q)) ∧
        p[0] = cmdByte s.csMap.ccsDlSeg (t.toNat * 16 + (7 - len.toNat) * 2 + c.toNat) ∧
        q[0] = cmdByte s.csMap.scsUlSeg (t.toNat * 16 + (7 - len.toNat) * 2 + c.toNat) ∧
        ∀ i : Fin 7, p[1 + i.val] = (if i.val < len.toNat then d[i] else 0) ∧ q[1 + i.val] = p[1 + i.val])

/-- R220: the sub-block. -/
def Obligations.SubblockIsBuilt : Prop :=
  ∀ (s : State) (c : Bool) (seqno : BitVec 7) (len : BitVec 4) (d : Lanes 7),
    (seqno = 0 ∨ 7 < len.toNat → Delivers (exec (.sdobSubblk c seqno len d) s) s (.raised .badOperand)) ∧
    (seqno ≠ 0 ∧ len.toNat ≤ 7 →
      ∃ p : Payload, Delivers (exec (.sdobSubblk c seqno len d) s) s (.ok (.payload p)) ∧
        p[0].toNat = c.toNat * 128 + seqno.toNat ∧
        ∀ i : Fin 7, p[1 + i.val] = if i.val < len.toNat then d[i] else 0)

/-- R222, R234 (with `s` and a size) and R224, R232 (with a window size): the block initiates. -/
def Obligations.BlockInitiatesAreBuilt : Prop :=
  ∀ (s : State) (index : BitVec 16) (subidx : BitVec 8) (crcsup si : Bool) (size : BitVec 32) (blksize : BitVec 8),
    Delivers (exec (.sdobBdlInitC index subidx crcsup si size) s) s
      (.ok (.payload #v[cmdByte s.csMap.ccsBlkDl (crcsup.toNat * 4 + si.toNat * 2),
        index.extractLsb' 0 8, index.extractLsb' 8 8, subidx,
        if si then size.extractLsb' 0 8 else 0, if si then size.extractLsb' 8 8 else 0,
        if si then size.extractLsb' 16 8 else 0, if si then size.extractLsb' 24 8 else 0])) ∧
    Delivers (exec (.sdobBulInitS index subidx crcsup si size) s) s
      (.ok (.payload #v[cmdByte s.csMap.scsBlkUl (crcsup.toNat * 4 + si.toNat * 2),
        index.extractLsb' 0 8, index.extractLsb' 8 8, subidx,
        if si then size.extractLsb' 0 8 else 0, if si then size.extractLsb' 8 8 else 0,
        if si then size.extractLsb' 16 8 else 0, if si then size.extractLsb' 24 8 else 0])) ∧
    Delivers (exec (.sdobBdlInitS index subidx crcsup blksize) s) s
      (.ok (.payload #v[cmdByte s.csMap.scsBlkDl (crcsup.toNat * 4),
        index.extractLsb' 0 8, index.extractLsb' 8 8, subidx, blksize, 0, 0, 0])) ∧
    Delivers (exec (.sdobBulInitC index subidx crcsup blksize) s) s
      (.ok (.payload #v[cmdByte s.csMap.ccsBlkUl (crcsup.toNat * 4),
        index.extractLsb' 0 8, index.extractLsb' 8 8, subidx, blksize, 0, 0, 0]))

/-- R226, R238 (block-response) and R228, R240 (block-end); the CRC is the operand, `CRCACC` is not read (R228). -/
def Obligations.BlockResponsesAndEndsAreBuilt : Prop :=
  ∀ (s : State) (ackseq blksize : BitVec 8) (n : BitVec 3) (crc : BitVec 16),
    Delivers (exec (.sdobBdlAckS ackseq blksize) s) s
      (.ok (.payload #v[cmdByte s.csMap.scsBlkDl 2, ackseq, blksize, 0, 0, 0, 0, 0])) ∧
    Delivers (exec (.sdobBulAckC ackseq blksize) s) s
      (.ok (.payload #v[cmdByte s.csMap.ccsBlkUl 2, ackseq, blksize, 0, 0, 0, 0, 0])) ∧
    Delivers (exec (.sdobBdlEndC n crc) s) s
      (.ok (.payload #v[cmdByte s.csMap.ccsBlkDl (n.toNat * 4 + 1), crc.extractLsb' 0 8, crc.extractLsb' 8 8,
        0, 0, 0, 0, 0])) ∧
    Delivers (exec (.sdobBulEndS n crc) s) s
      (.ok (.payload #v[cmdByte s.csMap.scsBlkUl (n.toNat * 4 + 1), crc.extractLsb' 0 8, crc.extractLsb' 8 8,
        0, 0, 0, 0, 0]))

/-- R230, R242 (end-response) and R236 (start request). -/
def Obligations.EndResponsesAndStartAreBuilt : Prop :=
  ∀ s : State,
    Delivers (exec .sdobBdlEndS s) s (.ok (.payload #v[cmdByte s.csMap.scsBlkDl 1, 0, 0, 0, 0, 0, 0, 0])) ∧
    Delivers (exec .sdobBulEndC s) s (.ok (.payload #v[cmdByte s.csMap.ccsBlkUl 1, 0, 0, 0, 0, 0, 0, 0])) ∧
    Delivers (exec .sdobBulStartC s) s
      (.ok (.payload #v[cmdByte s.csMap.ccsBlkUl s.csMap.subStart.toNat, 0, 0, 0, 0, 0, 0, 0]))

/-! ### SDO parsers -/

/-- R172, R181, R191: the initiate with data. -/
def Obligations.InitiateWithDataIsParsed : Prop :=
  ∀ (s : State) (plen : BitVec 4) (pay : Payload), ∃ f : InitData,
    Delivers (exec (.sdopDlInitC plen pay) s) s
      (parserAnswer s.csMap.ccsDlInit true plen pay (.initData .dlInitC f)) ∧
    Delivers (exec (.sdopUlInitS plen pay) s) s
      (parserAnswer s.csMap.scsUlInit true plen pay (.initData .ulInitS f)) ∧
    f.s = pay[0].getLsbD 0 ∧ f.e = pay[0].getLsbD 1 ∧ f.n.toNat = pay[0].toNat / 4 % 4 ∧
    f.index = pay[2] ++ pay[1] ∧ f.subidx = pay[3] ∧
    f.len.toNat = (if f.e then (if f.s then 4 - f.n.toNat else 4) else 0) ∧
    (∀ i : Fin 4, f.d[i] = if i.val < f.len.toNat then pay[4 + i.val] else 0) ∧
    f.size = if f.e = false ∧ f.s = true then pay[7] ++ pay[6] ++ pay[5] ++ pay[4] else 0

/-- R174, R178 with R183, R189, R187, R193: the headers without data. -/
def Obligations.PlainInitiateAndSegmentAreParsed : Prop :=
  ∀ (s : State) (plen : BitVec 4) (pay : Payload),
    Delivers (exec (.sdopDlInitS plen pay) s) s
      (parserAnswer s.csMap.scsDlInit true plen pay (.initPlain .dlInitS (pay[2] ++ pay[1]) pay[3])) ∧
    Delivers (exec (.sdopUlInitC plen pay) s) s
      (parserAnswer s.csMap.ccsUlInit true plen pay (.initPlain .ulInitC (pay[2] ++ pay[1]) pay[3])) ∧
    Delivers (exec (.sdopDlSegS plen pay) s) s
      (parserAnswer s.csMap.scsDlSeg true plen pay (.segPlain .dlSegS (pay[0].getLsbD 4))) ∧
    Delivers (exec (.sdopUlSegC plen pay) s) s
      (parserAnswer s.csMap.ccsUlSeg true plen pay (.segPlain .ulSegC (pay[0].getLsbD 4)))

/-- R176, R185, R195: the segment with data. -/
def Obligations.SegmentWithDataIsParsed : Prop :=
  ∀ (s : State) (plen : BitVec 4) (pay : Payload), ∃ f : SegData,
    Delivers (exec (.sdopDlSegC plen pay) s) s
      (parserAnswer s.csMap.ccsDlSeg true plen pay (.segData .dlSegC f)) ∧
    Delivers (exec (.sdopUlSegS plen pay) s) s
      (parserAnswer s.csMap.scsUlSeg true plen pay (.segData .ulSegS f)) ∧
    f.c = pay[0].getLsbD 0 ∧ f.t = pay[0].getLsbD 4 ∧ f.n.toNat = pay[0].toNat / 2 % 8 ∧
    f.len.toNat = 7 - f.n.toNat ∧ ∀ i : Fin 7, f.d[i] = if i.val < f.len.toNat then pay[1 + i.val] else 0

/-- R221: the sub-block; only 0x80 is an abort there, 0x81 to 0x9F are sub-blocks. -/
def Obligations.SubblockIsParsed : Prop :=
  ∀ (s : State) (plen : BitVec 4) (pay : Payload),
    (plen ≠ 8 ∨ pay[0] = 0 → Delivers (exec (.sdopSubblk plen pay) s) s (.raised .malformedSdo)) ∧
    (plen = 8 ∧ pay[0] = 0x80 → Delivers (exec (.sdopSubblk plen pay) s) s (.ok (abortFields pay))) ∧
    (plen = 8 ∧ pay[0].toNat % 128 ≠ 0 →
      ∃ (c : Bool) (seqno : BitVec 7) (d : Lanes 7),
        Delivers (exec (.sdopSubblk plen pay) s) s (.ok (.subblk c seqno d)) ∧
          c.toNat * 128 + seqno.toNat = pay[0].toNat ∧ ∀ i : Fin 7, d[i] = pay[1 + i.val])

/-- R223, R235 (bit 0 is the subcommand, bit 1 is `s`) and R225, R233 (bits 1:0 are the subcommand). -/
def Obligations.BlockInitiatesAreParsed : Prop :=
  ∀ (s : State) (plen : BitVec 4) (pay : Payload), s.csMap.Wf →
    Delivers (exec (.sdopBdlInitC plen pay) s) s
      (parserAnswer s.csMap.ccsBlkDl (pay[0].toNat % 2 == 0) plen pay
        (.blkInitSize .bdlInitC (pay[2] ++ pay[1]) pay[3] (pay[0].getLsbD 2) (pay[0].getLsbD 1)
          (if pay[0].getLsbD 1 then pay[7] ++ pay[6] ++ pay[5] ++ pay[4] else 0))) ∧
    Delivers (exec (.sdopBulInitS plen pay) s) s
      (parserAnswer s.csMap.scsBlkUl (pay[0].toNat % 2 == 0) plen pay
        (.blkInitSize .bulInitS (pay[2] ++ pay[1]) pay[3] (pay[0].getLsbD 2) (pay[0].getLsbD 1)
          (if pay[0].getLsbD 1 then pay[7] ++ pay[6] ++ pay[5] ++ pay[4] else 0))) ∧
    Delivers (exec (.sdopBdlInitS plen pay) s) s
      (parserAnswer s.csMap.scsBlkDl (pay[0].toNat % 4 == 0) plen pay
        (.blkInitWindow .bdlInitS (pay[2] ++ pay[1]) pay[3] (pay[0].getLsbD 2) pay[4])) ∧
    Delivers (exec (.sdopBulInitC plen pay) s) s
      (parserAnswer s.csMap.ccsBlkUl (pay[0].toNat % 4 == 0) plen pay
        (.blkInitWindow .bulInitC (pay[2] ++ pay[1]) pay[3] (pay[0].getLsbD 2) pay[4]))

/-- R227, R239 (block-response), R229, R241 (block-end), R231, R243 (end-response), R237 (start request). -/
def Obligations.OtherBlockMessagesAreParsed : Prop :=
  ∀ (s : State) (plen : BitVec 4) (pay : Payload), s.csMap.Wf →
    Delivers (exec (.sdopBdlAckS plen pay) s) s
      (parserAnswer s.csMap.scsBlkDl (pay[0].toNat % 4 == 2) plen pay (.blkAck .bdlAckS pay[1] pay[2])) ∧
    Delivers (exec (.sdopBulAckC plen pay) s) s
      (parserAnswer s.csMap.ccsBlkUl (pay[0].toNat % 4 == 2) plen pay (.blkAck .bulAckC pay[1] pay[2])) ∧
    Delivers (exec (.sdopBdlEndC plen pay) s) s
      (parserAnswer s.csMap.ccsBlkDl (pay[0].toNat % 4 == 1) plen pay
        (.blkEnd .bdlEndC (BitVec.ofNat 3 (pay[0].toNat / 4 % 8)) (pay[2] ++ pay[1]))) ∧
    Delivers (exec (.sdopBulEndS plen pay) s) s
      (parserAnswer s.csMap.scsBlkUl (pay[0].toNat % 4 == 1) plen pay
        (.blkEnd .bulEndS (BitVec.ofNat 3 (pay[0].toNat / 4 % 8)) (pay[2] ++ pay[1]))) ∧
    Delivers (exec (.sdopBdlEndS plen pay) s) s
      (parserAnswer s.csMap.scsBlkDl (pay[0].toNat % 4 == 1) plen pay (.kindOnly .bdlEndS)) ∧
    Delivers (exec (.sdopBulEndC plen pay) s) s
      (parserAnswer s.csMap.ccsBlkUl (pay[0].toNat % 4 == 1) plen pay (.kindOnly .bulEndC)) ∧
    Delivers (exec (.sdopBulStartC plen pay) s) s
      (parserAnswer s.csMap.ccsBlkUl (pay[0].toNat % 4 == s.csMap.subStart.toNat) plen pay (.kindOnly .bulStartC))

/-! ### Builders and parsers together (42_sdo_common.md R150) -/

/-- R150 for kinds 0 and 2 to 9: what a builder built, the parser of the kind reads back, with every field the kind
carries; lanes the builder ignored come back 0. -/
def Obligations.TransferPayloadsRoundTrip : Prop :=
  ∀ (s s' : State) (index : BitVec 16) (subidx : BitVec 8) (e si t c : Bool) (len : BitVec 4) (d4 : Lanes 4)
    (d7 : Lanes 7) (size code : BitVec 32) (p : Payload), s.csMap.Wf → s'.csMap = s.csMap →
    (responseOf (exec (.sdobAbort index subidx code) s) = some (.ok (.payload p)) →
      Delivers (exec (.sdopAbort 8 p) s') s' (.ok (.abort index subidx code))) ∧
    (responseOf (exec (.sdobDlInitC index subidx e si len d4 size) s) = some (.ok (.payload p)) →
      ∃ f : InitData, Delivers (exec (.sdopDlInitC 8 p) s') s' (.ok (.initData .dlInitC f)) ∧
        f.index = index ∧ f.subidx = subidx ∧ f.e = e ∧ f.s = si ∧
        (e = true → si = true → f.len = len) ∧
        (e = true → ∀ i : Fin 4, f.d[i] = if i.val < len.toNat ∨ si = false then d4[i] else 0) ∧
        (e = false → si = true → f.size = size)) ∧
    (responseOf (exec (.sdobUlInitS index subidx e si len d4 size) s) = some (.ok (.payload p)) →
      ∃ f : InitData, Delivers (exec (.sdopUlInitS 8 p) s') s' (.ok (.initData .ulInitS f)) ∧
        f.index = index ∧ f.subidx = subidx ∧ f.e = e ∧ f.s = si ∧
        (e = true → si = true → f.len = len) ∧
        (e = true → ∀ i : Fin 4, f.d[i] = if i.val < len.toNat ∨ si = false then d4[i] else 0) ∧
        (e = false → si = true → f.size = size)) ∧
    (responseOf (exec (.sdobDlInitS index subidx) s) = some (.ok (.payload p)) →
      Delivers (exec (.sdopDlInitS 8 p) s') s' (.ok (.initPlain .dlInitS index subidx))) ∧
    (responseOf (exec (.sdobUlInitC index subidx) s) = some (.ok (.payload p)) →
      Delivers (exec (.sdopUlInitC 8 p) s') s' (.ok (.initPlain .ulInitC index subidx))) ∧
    (responseOf (exec (.sdobDlSegC t c len d7) s) = some (.ok (.payload p)) →
      ∃ f : SegData, Delivers (exec (.sdopDlSegC 8 p) s') s' (.ok (.segData .dlSegC f)) ∧
        f.t = t ∧ f.c = c ∧ f.len = len ∧ ∀ i : Fin 7, f.d[i] = if i.val < len.toNat then d7[i] else 0) ∧
    (responseOf (exec (.sdobUlSegS t c len d7) s) = some (.ok (.payload p)) →
      ∃ f : SegData, Delivers (exec (.sdopUlSegS 8 p) s') s' (.ok (.segData .ulSegS f)) ∧
        f.t = t ∧ f.c = c ∧ f.len = len ∧ ∀ i : Fin 7, f.d[i] = if i.val < len.toNat then d7[i] else 0) ∧
    (responseOf (exec (.sdobDlSegS t) s) = some (.ok (.payload p)) →
      Delivers (exec (.sdopDlSegS 8 p) s') s' (.ok (.segPlain .dlSegS t))) ∧
    (responseOf (exec (.sdobUlSegC t) s) = some (.ok (.payload p)) →
      Delivers (exec (.sdopUlSegC 8 p) s') s' (.ok (.segPlain .ulSegC t)))

/-- R150 for kinds 1 and 10 to 20. -/
def Obligations.BlockPayloadsRoundTrip : Prop :=
  ∀ (s s' : State) (index : BitVec 16) (subidx : BitVec 8) (crcsup si c : Bool) (seqno : BitVec 7) (len : BitVec 4)
    (d : Lanes 7) (size : BitVec 32) (ackseq blksize : BitVec 8) (n : BitVec 3) (crc : BitVec 16) (p : Payload),
    s.csMap.Wf → s'.csMap = s.csMap →
    (responseOf (exec (.sdobSubblk c seqno len d) s) = some (.ok (.payload p)) →
      ∃ d' : Lanes 7, Delivers (exec (.sdopSubblk 8 p) s') s' (.ok (.subblk c seqno d')) ∧
        ∀ i : Fin 7, d'[i] = if i.val < len.toNat then d[i] else 0) ∧
    (responseOf (exec (.sdobBdlInitC index subidx crcsup si size) s) = some (.ok (.payload p)) →
      Delivers (exec (.sdopBdlInitC 8 p) s') s'
        (.ok (.blkInitSize .bdlInitC index subidx crcsup si (if si then size else 0)))) ∧
    (responseOf (exec (.sdobBulInitS index subidx crcsup si size) s) = some (.ok (.payload p)) →
      Delivers (exec (.sdopBulInitS 8 p) s') s'
        (.ok (.blkInitSize .bulInitS index subidx crcsup si (if si then size else 0)))) ∧
    (responseOf (exec (.sdobBdlInitS index subidx crcsup blksize) s) = some (.ok (.payload p)) →
      Delivers (exec (.sdopBdlInitS 8 p) s') s' (.ok (.blkInitWindow .bdlInitS index subidx crcsup blksize))) ∧
    (responseOf (exec (.sdobBulInitC index subidx crcsup blksize) s) = some (.ok (.payload p)) →
      Delivers (exec (.sdopBulInitC 8 p) s') s' (.ok (.blkInitWindow .bulInitC index subidx crcsup blksize))) ∧
    (responseOf (exec (.sdobBdlAckS ackseq blksize) s) = some (.ok (.payload p)) →
      Delivers (exec (.sdopBdlAckS 8 p) s') s' (.ok (.blkAck .bdlAckS ackseq blksize))) ∧
    (responseOf (exec (.sdobBulAckC ackseq blksize) s) = some (.ok (.payload p)) →
      Delivers (exec (.sdopBulAckC 8 p) s') s' (.ok (.blkAck .bulAckC ackseq blksize))) ∧
    (responseOf (exec (.sdobBdlEndC n crc) s) = some (.ok (.payload p)) →
      Delivers (exec (.sdopBdlEndC 8 p) s') s' (.ok (.blkEnd .bdlEndC n crc))) ∧
    (responseOf (exec (.sdobBulEndS n crc) s) = some (.ok (.payload p)) →
      Delivers (exec (.sdopBulEndS 8 p) s') s' (.ok (.blkEnd .bulEndS n crc))) ∧
    (responseOf (exec .sdobBdlEndS s) = some (.ok (.payload p)) →
      Delivers (exec (.sdopBdlEndS 8 p) s') s' (.ok (.kindOnly .bdlEndS))) ∧
    (responseOf (exec .sdobBulEndC s) = some (.ok (.payload p)) →
      Delivers (exec (.sdopBulEndC 8 p) s') s' (.ok (.kindOnly .bulEndC))) ∧
    (responseOf (exec .sdobBulStartC s) = some (.ok (.payload p)) →
      Delivers (exec (.sdopBulStartC 8 p) s') s' (.ok (.kindOnly .bulStartC)))

/-- 49_host_sdo_engine.md R296 with 30_encoding.md R96: a payload a server sends (`TX.SDO`) passes the client's
inbound filter for its node and is delivered as the fields of the expected kind, and one a client sends is ignored by
it. That a server sends on function code 11 is the spec's decision from general knowledge (log entry 14). -/
def Obligations.SentMessagePassesTheFilter : Prop :=
  ∀ (s : State) (node : BitVec 8) (b : Instr) (p : Payload), responseOf (exec b s) = some (.ok (.payload p)) →
    (∃ (r : Record) (t : State), txSdo .server node b s = some (r, t) ∧
      ∀ (k : Kind) (res : Results), responseOf (exec (parseOp 8 p k) s) = some (.ok res) →
        resultKind res ≠ some .abort → ∃ u : State, inbound (node.setWidth 7) k r t = some (.advance res, u)) ∧
    ∃ (r : Record) (t : State), txSdo .client node b s = some (r, t) ∧
      ∀ k : Kind, ∃ u : State, inbound (node.setWidth 7) k r t = some (.ignored, u)

/-- 70_reset_and_hazards.md R372, its examples under the default map (log entry 1): eight bytes parse under three
operations. -/
def Obligations.WrongContextIsNotDetected : Prop :=
  ∀ s : State, s.csMap = CsMap.default →
    (∃ f : InitData, f.e = false ∧ f.s = true ∧ f.size = 10 ∧
      Delivers (exec (.sdopUlInitS 8 #v[0x41, 0x18, 0x10, 0x01, 0x0A, 0, 0, 0]) s) s (.ok (.initData .ulInitS f))) ∧
    Delivers (exec (.sdopUlInitC 8 #v[0x41, 0x18, 0x10, 0x01, 0x0A, 0, 0, 0]) s) s
      (.ok (.initPlain .ulInitC 0x1018 1)) ∧
    ∃ d : Lanes 7, Delivers (exec (.sdopSubblk 8 #v[0x41, 0x18, 0x10, 0x01, 0x0A, 0, 0, 0]) s) s
      (.ok (.subblk false 65 d))

/-! ### CRC (45_crc16.md) -/

/-- R265 and R266: the two operations that write `CRCACC`. -/
def Obligations.CrcClrAndUpdWriteTheAccumulator : Prop :=
  ∀ (s : State) (len : BitVec 4) (dat : Lanes 8),
    exec .crcClr s = .next { s with crcacc := 0x0000, response := some (.ok .nothing) } ∧
    (8 < len.toNat → Delivers (exec (.crcUpd len dat) s) s (.raised .badOperand)) ∧
    (len.toNat ≤ 8 → exec (.crcUpd len dat) s =
      .next { s with crcacc := (dat.toList.take len.toNat).foldl crcByte s.crcacc, response := some (.ok .nothing) })

/-- R267 and R268: reading and comparing leave `CRCACC` as it is, and a mismatch is a result. -/
def Obligations.CrcRdAndChkReadTheAccumulator : Prop :=
  ∀ (s : State) (crc : BitVec 16),
    Delivers (exec .crcRd s) s (.ok (.crc s.crcacc)) ∧
    Delivers (exec (.crcChk crc) s) s (.ok (.crcMatch (decide (s.crcacc = crc))))

/-- R263 and R264: the listed table is `crc_byte(0, i)`, and the table-driven step equals the bit-by-bit one. -/
def Obligations.TableStepEqualsBitStep : Prop :=
  (∀ i : Fin 256, crcTable.getD i.val 0 = crcByte 0 (BitVec.ofNat 8 i.val)) ∧ crcTable.length = 256 ∧
    ∀ (acc : BitVec 16) (b : Byte), crcByteTab acc b = crcByte acc b

/-- R269: after a `CRC.CLR` and any list of updates, run step by step, `CRCACC` is the checksum of the bytes fed, in
order, however they were grouped. -/
def Obligations.GroupingOfUpdatesDoesNotMatter : Prop :=
  ∀ (s : State) (groups : List (BitVec 4 × Lanes 8)), (∀ g ∈ groups, g.1.toNat ≤ 8) →
    s.inputs = hostProgram (.crcClr :: groups.map fun g => .crcUpd g.1 g.2) →
    ∃ t : State, Host.Core.run core (groups.length + 1) s = .next t ∧
      t.crcacc = crcOf (groups.flatMap fun g => g.2.toList.take g.1.toNat) ∧
      t.inputs = [] ∧ t.csMap = s.csMap

/-- 30_encoding.md R96, `CRC.CALC`: the sequence, run from any state, ends with the checksum of the bytes in the
accumulator and in the response. -/
def Obligations.CrcCalcReadsTheChecksum : Prop :=
  ∀ (s : State) (bytes : List Byte), s.inputs = hostProgram (crcCalc bytes) →
    Host.Core.run core (crcCalc bytes).length s =
      .next { s with crcacc := crcOf bytes, inputs := [], response := some (.ok (.crc (crcOf bytes))) }

/-- R271: appending the checksum high byte first gives 0; and R266, corner case (e): zero bytes leave a zero
accumulator zero. -/
def Obligations.ChecksumResidueIsZero : Prop :=
  (∀ bytes : List Byte, crcOf (bytes ++ [(crcOf bytes).extractLsb' 8 8, (crcOf bytes).extractLsb' 0 8]) = 0) ∧
    ∀ n : Nat, crcFrom 0 (List.replicate n 0) = 0

/-! ### Wire formats (the model's meaning of the WIRE rows: log entry 4) -/

/-- The rows `WIRE.REC.W` (layout 30_encoding.md R61) and `WIRE.COB` (layout R63): the fields are read, nothing else
changes. That a wire format is executed at all is the model's choice (log entry 4). -/
def Obligations.WordAndIdRowsReadTheirFields : Prop :=
  ∀ (s : State) (arbId : BitVec 29) (ext rtr err : Bool) (fc4 : BitVec 4) (node7 : BitVec 7),
    Delivers (exec (.wireRecW (BitVec.ofBool ext ++ BitVec.ofBool rtr ++ BitVec.ofBool err ++ arbId)) s) s
      (.ok (.recordFields arbId ext rtr err)) ∧
    Delivers (exec (.wireCob (fc4 ++ node7)) s) s (.ok (.cobFields fc4 node7))

/-- Each of the 21 `WIRE.SDO.<kind>` rows, well formed: it completes with the fields of its kind, the ones the parser
of the kind reads from the same eight bytes, and nothing else changes. The model's choice (log entry 4). -/
def Obligations.WireItemsDeliverTheirFields : Prop :=
  ∀ (s : State) (i : Instr) (k : Kind) (pay : Payload), s.csMap.Wf → i.wireKind = some (k, pay) →
    i.wellFormed s.csMap = true →
      ∃ r : Results, Delivers (exec i s) s (.ok r) ∧ resultKind r = some k ∧ exec (parseOp 8 pay k) s = exec i s
end

