-- ==== Sys2Proof/Laws/Operands.lean ====
section
/-! SUPPORT. What the byte-order and lane helpers write and read, lane by lane. -/

namespace Sys2Proof.Machine

@[simp] theorem zeroLanes_getElem (n i : Nat) (h : i < n) : (zeroLanes n)[i] = 0 := by
  simp [zeroLanes]

theorem lanesFrom_getElem {n : Nat} (src : Lanes n) (off m cnt : Nat) (h : off + m ≤ n) (i : Nat) (hi : i < m) :
    (lanesFrom src off m cnt h)[i] = if i < cnt then src[off + i] else 0 := by
  simp [lanesFrom]

theorem putLanes_getElem {m n : Nat} (dst : Lanes n) (off cnt : Nat) (src : Lanes m) (i : Nat) (hi : i < n) :
    (putLanes dst off cnt src)[i] =
      if h : off ≤ i ∧ i - off < cnt ∧ i - off < m then src[i - off] else dst[i] := by
  simp [putLanes]

/-- Below the offset nothing is written. -/
theorem putLanes_below {m n : Nat} (dst : Lanes n) (off cnt : Nat) (src : Lanes m) (i : Nat) (hi : i < n)
    (h : i < off) : (putLanes dst off cnt src)[i] = dst[i] := by
  rw [putLanes_getElem, dif_neg]; omega

/-- The two bytes of a 16-bit value, put together again. -/
theorem bytes_append_16 (v : BitVec 16) : (v.extractLsb' 8 8 ++ v.extractLsb' 0 8 : BitVec 16) = v := by
  apply BitVec.eq_of_getLsbD_eq
  intro i hi
  simp only [BitVec.getLsbD_append, BitVec.getLsbD_extractLsb']
  split
  · simp_all
  · rw [show 8 + (i - 8) = i by omega]; simp; omega

/-- The four bytes of a 32-bit value, put together again. -/
theorem bytes_append_32 (v : BitVec 32) :
    (v.extractLsb' 24 8 ++ v.extractLsb' 16 8 ++ v.extractLsb' 8 8 ++ v.extractLsb' 0 8 : BitVec 32) = v := by
  apply BitVec.eq_of_getLsbD_eq
  intro i hi
  simp only [BitVec.getLsbD_append, BitVec.getLsbD_extractLsb']
  split
  · simp_all
  · split
    · rw [show 8 + (i - 8) = i by omega]; simp; omega
    · split
      · rw [show 16 + (i - 8 - 8) = i by omega]; simp; omega
      · rw [show 24 + (i - 8 - 8 - 8) = i by omega]; simp; omega

/-- A little-endian pair read back where it was written. -/
theorem le16_put16 {n : Nat} (b : Lanes n) (o : Nat) (v : BitVec 16) (h : o + 1 < n) :
    le16 (put16 b o v h) o h = v := by
  simp [le16, put16, bytes_append_16]

/-- A little-endian word read back where it was written. -/
theorem le32_put32 {n : Nat} (b : Lanes n) (o : Nat) (v : BitVec 32) (h : o + 3 < n) :
    le32 (put32 b o v h) o h = v := by
  simp [le32, put32, bytes_append_32]

/-- A little-endian pair changes no lane but its two. -/
theorem put16_other {n : Nat} (b : Lanes n) (o : Nat) (v : BitVec 16) (h : o + 1 < n) (i : Nat) (hi : i < n)
    (h0 : i ≠ o) (h1 : i ≠ o + 1) : (put16 b o v h)[i] = b[i] := by
  simp [put16, h0.symm, h1.symm]

/-- A little-endian word changes no lane but its four. -/
theorem put32_other {n : Nat} (b : Lanes n) (o : Nat) (v : BitVec 32) (h : o + 3 < n) (i : Nat) (hi : i < n)
    (h0 : i < o ∨ o + 3 < i) : (put32 b o v h)[i] = b[i] := by
  simp only [put32, Vector.getElem_set]
  split
  · omega
  · split
    · omega
    · split
      · omega
      · split
        · omega
        · rfl

theorem cmdSpec_append (cs : BitVec 3) (low5 : BitVec 5) : cmdSpec (cs ++ low5) = cs := by
  unfold cmdSpec; revert cs low5; decide

@[simp] theorem setCmd_zero (cs : BitVec 3) (low5 : BitVec 5) (pay : Payload) : (setCmd cs low5 pay)[0] = cs ++ low5 := by
  simp [setCmd]

/-- A command byte changes no other lane. -/
theorem setCmd_other (cs : BitVec 3) (low5 : BitVec 5) (pay : Payload) (i : Nat) (hi : i < 8) (h : i ≠ 0) :
    (setCmd cs low5 pay)[i] = pay[i] := by
  simp [setCmd, h.symm]

end Sys2Proof.Machine
end

