-- ==== Sys2Proof/Laws/State.lean ====
section
/-! SUPPORT. One lemma per field per state update, so that no proof unfolds a record update. -/

namespace Sys2Proof.Machine

@[simp] theorem State.withResponse_crcacc (s : State) (r : Response) : (s.withResponse r).crcacc = s.crcacc := rfl
@[simp] theorem State.withResponse_csMap (s : State) (r : Response) : (s.withResponse r).csMap = s.csMap := rfl
@[simp] theorem State.withResponse_inputs (s : State) (r : Response) : (s.withResponse r).inputs = s.inputs := rfl
@[simp] theorem State.withResponse_response (s : State) (r : Response) : (s.withResponse r).response = some r := rfl

@[simp] theorem State.withCrcacc_crcacc (s : State) (v : BitVec 16) : (s.withCrcacc v).crcacc = v := rfl
@[simp] theorem State.withCrcacc_csMap (s : State) (v : BitVec 16) : (s.withCrcacc v).csMap = s.csMap := rfl
@[simp] theorem State.withCrcacc_inputs (s : State) (v : BitVec 16) : (s.withCrcacc v).inputs = s.inputs := rfl
@[simp] theorem State.withCrcacc_response (s : State) (v : BitVec 16) : (s.withCrcacc v).response = s.response := rfl

@[simp] theorem State.withInputs_crcacc (s : State) (es : List HostEvent) : (s.withInputs es).crcacc = s.crcacc := rfl
@[simp] theorem State.withInputs_csMap (s : State) (es : List HostEvent) : (s.withInputs es).csMap = s.csMap := rfl
@[simp] theorem State.withInputs_inputs (s : State) (es : List HostEvent) : (s.withInputs es).inputs = es := rfl
@[simp] theorem State.withInputs_response (s : State) (es : List HostEvent) :
    (s.withInputs es).response = s.response := rfl

@[simp] theorem hostReset_crcacc (s : State) : (hostReset s).crcacc = Config.crcInit := rfl
@[simp] theorem hostReset_csMap (s : State) : (hostReset s).csMap = s.csMap := rfl
@[simp] theorem hostReset_inputs (s : State) : (hostReset s).inputs = s.inputs := rfl
@[simp] theorem hostReset_response (s : State) : (hostReset s).response = none := rfl

@[simp] theorem State.withFetchWord_inputs (s : State) (nbits w : Nat) :
    (s.withFetchWord nbits w).inputs = .issue (tableWord nbits w) :: s.inputs := rfl

/-- Two responses delivered in a row leave the second. -/
@[simp] theorem State.withResponse_withResponse (s : State) (r q : Response) :
    (s.withResponse r).withResponse q = s.withResponse q := rfl

end Sys2Proof.Machine
end

