-- ==== Sys2Proof/Laws/Ops.lean ====
section
/-! SUPPORT. For each shared operation one lemma that says once everything it can do; later proofs cite these instead
of unfolding the operation. -/

namespace Sys2Proof.Machine

@[simp] theorem deliver_eq (r : Response) (s : State) : deliver r s = .next (s.withResponse r) := rfl
@[simp] theorem complete_eq (r : Results) (s : State) : complete r s = .next (s.withResponse (.ok r)) := rfl
@[simp] theorem raise_eq (f : Failure) (s : State) : raise f s = .next (s.withResponse (.raised f)) := rfl
@[simp] theorem reject_eq (e : DecodeError) (s : State) :
    reject e s = .next (s.withResponse (.raised (rejectionStatus e))) := rfl

/-- What taking the host's next event can find. -/
theorem takeEvent_cases (s : State) :
    (s.inputs = [] ∧ takeEvent s = none) ∨
      ∃ e rest, s.inputs = e :: rest ∧ takeEvent s = some (e, s.withInputs rest) := by
  cases h : s.inputs with
  | nil => exact .inl ⟨rfl, by simp [takeEvent, h]⟩
  | cons e rest => exact .inr ⟨e, rest, rfl, by simp [takeEvent, h]⟩

@[simp] theorem badPlen_eight : badPlen 8#4 = false := by decide

theorem badPlen_iff (plen : BitVec 4) : badPlen plen = true ↔ plen ≠ 8 := by
  revert plen; decide

theorem badFrameLen_iff (len : BitVec 4) : badFrameLen len = true ↔ 8 < len.toNat := by
  simp only [badFrameLen, decide_eq_true_eq]; rfl

theorem badSegLen_iff (len : BitVec 4) : badSegLen len = true ↔ 7 < len.toNat := by
  simp only [badSegLen, decide_eq_true_eq]; rfl

theorem badInitLen_iff (e s : Bool) (len : BitVec 4) :
    badInitLen e s len = true ↔ e = true ∧ s = true ∧ (len.toNat < 1 ∨ 4 < len.toNat) := by
  simp only [badInitLen, Bool.and_eq_true, Bool.or_eq_true, decide_eq_true_eq, and_assoc]; rfl

/-- Everything `expect` can answer (42_sdo_common.md R142). -/
theorem expect_cases (m : CsMap) (dir : Sender) (wantCs : BitVec 3) (wantSub : Option (BitVec 2))
    (plen : BitVec 4) (pay : Payload) (fields : Results) :
    (expect m dir wantCs wantSub plen pay fields = .raised .malformedSdo) ∨
    (plen = 8 ∧ cmdSpec pay[0] = Config.csAbort ∧ wantCs ≠ Config.csAbort ∧
      expect m dir wantCs wantSub plen pay fields = .ok (parseAbort pay)) ∨
    (plen = 8 ∧ cmdSpec pay[0] = wantCs ∧ (∀ sub, wantSub = some sub → blkSub m dir wantCs pay[0] = sub) ∧
      expect m dir wantCs wantSub plen pay fields = .ok fields) := by
  unfold expect
  by_cases hp : badPlen plen = true
  · simp [hp]
  have hp8 : plen = 8 := by simpa [badPlen_iff] using hp
  by_cases ha : cmdSpec pay[0] = Config.csAbort ∧ wantCs ≠ Config.csAbort
  · simp [hp8, ha]
  by_cases hc : cmdSpec pay[0] = wantCs
  · have hna : (cmdSpec pay[0] == Config.csAbort && wantCs != Config.csAbort) = false := by
      simp only [not_and, not_not] at ha
      cases h : (cmdSpec pay[0] == Config.csAbort && wantCs != Config.csAbort) with
      | false => rfl
      | true => simp_all
    cases wantSub with
    | none => simp [hp8, hc]
    | some sub =>
      by_cases hs : blkSub m dir wantCs pay[0] = sub
      · subst hc; simp [hp8, hna, hs]
      · subst hc; simp [hp8, hna, hs]
  · left
    have hna : (cmdSpec pay[0] == Config.csAbort && wantCs != Config.csAbort) = false := by
      cases h : (cmdSpec pay[0] == Config.csAbort && wantCs != Config.csAbort) with
      | false => rfl
      | true => simp_all
    simp [hp8, hna, hc]

/-- Everything `SDOP.SUBBLK` can answer (44_sdo_block.md R221). -/
theorem expectSubblk_cases (plen : BitVec 4) (pay : Payload) :
    (expectSubblk plen pay = .raised .malformedSdo) ∨
    (plen = 8 ∧ pay[0] = abortByte ∧ expectSubblk plen pay = .ok (parseAbort pay)) ∨
    (plen = 8 ∧ pay[0] ≠ abortByte ∧ seqField pay[0] ≠ 0 ∧ expectSubblk plen pay = .ok (parseSubblk pay)) := by
  unfold expectSubblk
  by_cases hp : badPlen plen = true
  · simp [hp]
  have hp8 : plen = 8 := by simpa [badPlen_iff] using hp
  by_cases ha : pay[0] = abortByte
  · simp [hp8, ha]
  by_cases hs : seqField pay[0] = 0
  · simp [hp8, ha, hs]
  · exact .inr (.inr ⟨hp8, ha, hs, by simp [hp8, ha]; exact hs⟩)

end Sys2Proof.Machine
end

