-- ==== Sys2Proof/Laws/Exec.lean ====
section
/-! SUPPORT. What `exec` can do, said once: an operation that does not name `CRCACC` delivers a response that its
operands and the configuration fix, and changes nothing else; what the four CRC operations do. -/

namespace Sys2Proof.Machine

theorem exec_crcClr (s : State) :
    exec .crcClr s = .next ((s.withCrcacc Config.crcInit).withResponse (.ok .nothing)) := rfl

theorem exec_crcRd (s : State) : exec .crcRd s = .next (s.withResponse (.ok (.crc s.crcacc))) := rfl

theorem exec_crcChk (crc : BitVec 16) (s : State) :
    exec (.crcChk crc) s = .next (s.withResponse (.ok (.crcMatch (crcAgrees s.crcacc crc)))) := rfl

theorem exec_crcUpd_bad (len : BitVec 4) (dat : Lanes 8) (s : State) (h : 8 < len.toNat) :
    exec (.crcUpd len dat) s = .next (s.withResponse (.raised .badOperand)) := by
  simp only [exec, execCrcUpd, (badFrameLen_iff len).2 h, if_true]; rfl

theorem exec_crcUpd_good (len : BitVec 4) (dat : Lanes 8) (s : State) (h : len.toNat ≤ 8) :
    exec (.crcUpd len dat) s =
      .next ((s.withCrcacc (crcFrom s.crcacc (dat.toList.take len.toNat))).withResponse (.ok .nothing)) := by
  have hb : badFrameLen len = false := by rw [← Bool.not_eq_true, badFrameLen_iff]; omega
  simp only [exec, execCrcUpd, hb]; rfl

/-- The response of an instruction that does not name `CRCACC`, from the configuration alone. -/
def answer (i : Instr) (m : CsMap) : Response :=
  (responseOf (exec i { crcacc := 0, csMap := m, inputs := [], response := none })).getD (.raised .illegalOp)

/-- An instruction delivers a response that the configuration fixes. -/
def AnswersFrom (i : Instr) : Prop := ∃ r : CsMap → Response, ∀ s, exec i s = .next (s.withResponse (r s.csMap))

theorem answersFrom_of_answer (i : Instr) (h : ∀ s, exec i s = .next (s.withResponse (answer i s.csMap))) :
    AnswersFrom i := ⟨answer i, h⟩

theorem answersFrom_canfEnc (arbId : BitVec 29) (ext rtr err : Bool) (dlc : BitVec 4) (dat : Lanes 8) :
    AnswersFrom (.canfEnc arbId ext rtr err dlc dat) :=
  ⟨fun _ => if badFrameLen dlc then .raised .badOperand else .ok (.record (encodeRecord arbId ext rtr err dlc dat)),
    fun s => by simp only [exec, execCanfEnc]; split <;> rfl⟩

theorem answersFrom_canfDec (recLen : BitVec 8) (r : Record) : AnswersFrom (.canfDec recLen r) :=
  ⟨fun _ => if malformedRecord recLen r then .raised .malformedFrame else .ok (.frame (decodeRecord r)),
    fun s => by simp only [exec, execCanfDec]; split <;> rfl⟩

/-- What `SDO.IDENT` answers. -/
theorem exec_sdoIdent (dir : Sender) (plen : BitVec 4) (pay : Payload) (s : State) :
    exec (.sdoIdent dir plen pay) s = .next (s.withResponse (if badPlen plen then .raised .malformedSdo
      else match identKind s.csMap dir pay[0] with
        | some k => .ok (.kindOnly k)
        | none => .raised .malformedSdo)) := by
  simp only [exec, execSdoIdent]
  split
  · rfl
  · cases identKind s.csMap dir pay[0] <;> rfl

theorem answersFrom_sdoIdent (dir : Sender) (plen : BitVec 4) (pay : Payload) : AnswersFrom (.sdoIdent dir plen pay) :=
  ⟨fun m => if badPlen plen then .raised .malformedSdo
      else match identKind m dir pay[0] with
        | some k => .ok (.kindOnly k)
        | none => .raised .malformedSdo,
    fun s => exec_sdoIdent dir plen pay s⟩

theorem answersFrom_sdopAbort (plen : BitVec 4) (pay : Payload) : AnswersFrom (.sdopAbort plen pay) :=
  ⟨fun _ => if badPlen plen then .raised .malformedSdo
      else if cmdSpec pay[0] != Config.csAbort then .raised .malformedSdo else .ok (parseAbort pay),
    fun s => by simp only [exec, execSdopAbort]; split; rfl; split <;> rfl⟩

theorem answersFrom_sdobSubblk (c : Bool) (seqno : BitVec 7) (len : BitVec 4) (d : Lanes 7) :
    AnswersFrom (.sdobSubblk c seqno len d) :=
  ⟨fun _ => if seqno == 0 || badSegLen len then .raised .badOperand
      else .ok (.payload (putLanes (beginBuild.set 0 (BitVec.ofBool c ++ seqno)) 1 len.toNat d)),
    fun s => by simp only [exec, execSdobSubblk]; split <;> rfl⟩

theorem answersFrom_wireSdoAbort (pay : Payload) : AnswersFrom (.wireSdoAbort pay) :=
  ⟨fun _ => if cmdSpec pay[0] != Config.csAbort then .raised .malformedSdo else .ok (parseAbort pay),
    fun s => by simp only [exec, execWireSdoAbort]; split <;> rfl⟩

/-- Every instruction that does not name `CRCACC` delivers a response that the configuration fixes. -/
theorem answersFrom_of_not_usesCrcacc (i : Instr) (hu : ¬UsesCrcacc i) : AnswersFrom i := by
  cases i
  case crcClr => exact absurd (.inl (.inl rfl)) hu
  case crcUpd => exact absurd (.inl (.inr ⟨_, _, rfl⟩)) hu
  case crcRd => exact absurd (.inr (.inl rfl)) hu
  case crcChk => exact absurd (.inr (.inr ⟨_, rfl⟩)) hu
  case canfEnc => exact answersFrom_canfEnc ..
  case canfDec => exact answersFrom_canfDec ..
  case sdoIdent => exact answersFrom_sdoIdent ..
  case sdopAbort => exact answersFrom_sdopAbort ..
  case sdobSubblk => exact answersFrom_sdobSubblk ..
  case wireSdoAbort => exact answersFrom_wireSdoAbort ..
  all_goals exact answersFrom_of_answer _ fun s => rfl

end Sys2Proof.Machine
end

