-- ==== Sys2Proof/Laws/Ident.lean ====
section
/-! SUPPORT. How a command byte is recognised, said once: the kind `SDO.IDENT` finds (42_sdo_common.md R145) is the one
envelope kind the sender sends whose pattern (30_encoding.md R75) byte 0 has. -/

namespace Sys2Proof.Machine

/-! ### The low bits under the masks of R75 -/

theorem low_mask_three (b0 : Byte) (v : BitVec 2) :
    ((b0.setWidth 5 &&& (3 : BitVec 5)) == (0#3 ++ v : BitVec 5)) = (subField b0 == v) := by
  revert b0 v; decide +kernel

theorem low_mask_three_zero (b0 : Byte) : ((b0.setWidth 5 &&& (3 : BitVec 5)) == 0) = (subField b0 == 0) :=
  low_mask_three b0 0

theorem low_mask_three_one (b0 : Byte) : ((b0.setWidth 5 &&& (3 : BitVec 5)) == 1) = (subField b0 == 1) :=
  low_mask_three b0 1

theorem low_mask_three_two (b0 : Byte) : ((b0.setWidth 5 &&& (3 : BitVec 5)) == 2) = (subField b0 == 2) :=
  low_mask_three b0 2

theorem low_mask_one (b0 : Byte) : ((b0.setWidth 5 &&& (1 : BitVec 5)) == 0) = !b0.getLsbD 0 := by
  revert b0; decide +kernel

theorem low_mask_zero (b0 : Byte) : ((b0.setWidth 5 &&& (0 : BitVec 5)) == 0) = true := by
  revert b0; decide +kernel

theorem bit_zero_of_subField (b0 : Byte) : b0.getLsbD 0 = (subField b0).getLsbD 0 := by
  revert b0; decide +kernel

theorem two_bits_cases : ∀ v : BitVec 2, v = 0 ∨ v = 1 ∨ v = 2 ∨ v = 3 := by decide

/-! ### What a legal map rules out (00_scope.md R11) -/

/-- The only value left for `SUB_START` is 3. -/
theorem subStart_eq_three (m : CsMap) (hm : m.Wf) : m.subStart = 3 := by
  obtain ⟨_, _, h⟩ := hm
  simp only [List.nodup_cons, List.mem_cons, not_or, Config.subInitiate, Config.subEnd, Config.subResponse] at h
  rcases two_bits_cases m.subStart with e | e | e | e <;> simp_all

/-- The two block specifiers of a server differ. -/
theorem server_blocks_differ (m : CsMap) (hm : m.Wf) : m.scsBlkDl ≠ m.scsBlkUl := by
  have h := hm.2.1
  simp only [CsMap.serverValues, List.nodup_cons, List.mem_cons, not_or] at h
  simp_all

/-- The two block specifiers of a client differ. -/
theorem client_blocks_differ (m : CsMap) (hm : m.Wf) : m.ccsBlkUl ≠ m.ccsBlkDl := by
  have h := hm.1
  simp only [CsMap.clientValues, List.nodup_cons, List.mem_cons, not_or] at h
  simp_all

/-- No kind but the abort has the specifier of an abort. -/
theorem kindCs_ne_abort (m : CsMap) (hm : m.Wf) (k : Kind) (hk : k ≠ .abort) (cs : BitVec 3)
    (h : kindCs m k = some cs) : cs ≠ Config.csAbort := by
  obtain ⟨h1, h2, _⟩ := hm
  simp only [CsMap.clientValues, CsMap.serverValues, List.nodup_cons, List.mem_cons, not_or] at h1 h2
  cases k <;> simp only [kindCs, Option.some.injEq] at h <;> first | contradiction | (subst h; simp_all [eq_comm])

/-! ### The kind of a command byte -/

theorem identClient_sound (m : CsMap) (hm : m.Wf) (k : Kind) (b0 : Byte) (h : identClient m b0 = some k) :
    k ≠ .subblk ∧ sentBy k .client = true ∧ matchesKind m k b0 = true := by
  have hs := subStart_eq_three m hm
  have hb := bit_zero_of_subField b0
  unfold identClient at h
  simp only [blkSub, beq_self_eq_true, Bool.true_and, Config.subInitiate, Config.subEnd, Config.subResponse, hb] at h
  repeat' split at h
  all_goals first | contradiction | (cases h)
  all_goals refine ⟨by decide, by decide, ?_⟩
  all_goals simp only [matchesKind, kindCs, kindLowPattern, low_mask_three, low_mask_three_zero, low_mask_three_one,
    low_mask_three_two, low_mask_one, low_mask_zero, hb, hs]
  all_goals (rcases two_bits_cases (subField b0) with e | e | e | e <;> simp_all)

theorem identServer_sound (m : CsMap) (hm : m.Wf) (k : Kind) (b0 : Byte) (h : identServer m b0 = some k) :
    k ≠ .subblk ∧ sentBy k .server = true ∧ matchesKind m k b0 = true := by
  have hne := server_blocks_differ m hm
  have hb := bit_zero_of_subField b0
  unfold identServer at h
  simp only [blkSub, beq_self_eq_true, Bool.true_and, Config.subInitiate, Config.subEnd, Config.subResponse, hb] at h
  repeat' split at h
  all_goals first | contradiction | (cases h)
  all_goals refine ⟨by decide, by decide, ?_⟩
  all_goals simp only [matchesKind, kindCs, kindLowPattern, low_mask_three_zero, low_mask_three_one,
    low_mask_three_two, low_mask_one, low_mask_zero, hb]
  all_goals (rcases two_bits_cases (subField b0) with e | e | e | e <;> simp_all)

theorem identKind_sound (m : CsMap) (hm : m.Wf) (k : Kind) (d : Sender) (b0 : Byte) (h : identKind m d b0 = some k) :
    k ≠ .subblk ∧ sentBy k d = true ∧ matchesKind m k b0 = true := by
  unfold identKind at h
  split at h
  · rename_i hc
    cases h
    refine ⟨by decide, by cases d <;> decide, ?_⟩
    simp only [matchesKind, kindCs, kindLowPattern, low_mask_zero, hc]; rfl
  · cases d
    · exact identClient_sound m hm k b0 h
    · exact identServer_sound m hm k b0 h

theorem identKind_complete (m : CsMap) (hm : m.Wf) (k : Kind) (d : Sender) (b0 : Byte) (hk : k ≠ .subblk)
    (hd : sentBy k d = true) (h : matchesKind m k b0 = true) : identKind m d b0 = some k := by
  have hs := subStart_eq_three m hm
  have hb := bit_zero_of_subField b0
  obtain ⟨h1, h2, _⟩ := hm
  have h1' := List.nodup_reverse.2 h1
  have h2' := List.nodup_reverse.2 h2
  simp only [CsMap.clientValues, CsMap.serverValues, List.reverse_cons, List.reverse_nil, List.nil_append,
    List.cons_append, List.nodup_cons, List.mem_cons, not_or, List.not_mem_nil, not_false_eq_true,
    and_true, List.nodup_nil] at h1 h2 h1' h2'
  cases d <;> cases k <;> simp only [sentBy, matchesKind, kindCs, kindLowPattern, low_mask_three, low_mask_three_zero,
    low_mask_three_one, low_mask_three_two, low_mask_one, low_mask_zero, hb, hs, Bool.and_eq_true, beq_iff_eq,
    Bool.not_eq_true'] at h hd <;> first | contradiction | skip
  all_goals obtain ⟨hc, hl⟩ := h
  all_goals simp only [identKind, identClient, identServer, hc, blkSub, hb, Config.subInitiate, Config.subEnd,
    Config.subResponse]
  all_goals (rcases two_bits_cases (subField b0) with e | e | e | e <;> simp only [e] at hl ⊢ <;>
    first | (exfalso; revert hl; decide) | simp [h1, h2, h1', h2'])

/-- Everything `identKind` can find, under a legal map. -/
theorem identKind_iff (m : CsMap) (hm : m.Wf) (k : Kind) (d : Sender) (b0 : Byte) :
    identKind m d b0 = some k ↔ (k ≠ .subblk ∧ sentBy k d = true ∧ matchesKind m k b0 = true) :=
  ⟨identKind_sound m hm k d b0, fun ⟨a, b, c⟩ => identKind_complete m hm k d b0 a b c⟩

end Sys2Proof.Machine
end

