-- ==== Sys2Proof/Laws/PerInstr.lean ====
section
/-! SUPPORT. Statements made per instruction. Family SelectorOfRow: the encoder writes the selector that the
instruction's row of spec/opcode_table.json has (30_encoding.md R91), and no selector for a wire-format row. -/

namespace Sys2Proof.Laws.SelectorOfRow

/-- The `match` value of the row, for a row of format OP. -/
def rowSelector : Instr → Option (BitVec 8)
  | .canfEnc _ _ _ _ _ _ => some 0x10
  | .canfDec _ _ => some 0x11
  | .cobCompose _ _ => some 0x20
  | .cobDecompose _ => some 0x21
  | .cobClassify _ _ _ _ => some 0x22
  | .sdoIdent _ _ _ => some 0x30
  | .sdobAbort _ _ _ => some 0x40
  | .sdobSubblk _ _ _ _ => some 0x41
  | .sdobDlInitC _ _ _ _ _ _ _ => some 0x42
  | .sdobDlInitS _ _ => some 0x43
  | .sdobDlSegC _ _ _ _ => some 0x44
  | .sdobDlSegS _ => some 0x45
  | .sdobUlInitC _ _ => some 0x46
  | .sdobUlInitS _ _ _ _ _ _ _ => some 0x47
  | .sdobUlSegC _ => some 0x48
  | .sdobUlSegS _ _ _ _ => some 0x49
  | .sdobBdlInitC _ _ _ _ _ => some 0x4A
  | .sdobBdlInitS _ _ _ _ => some 0x4B
  | .sdobBdlAckS _ _ => some 0x4C
  | .sdobBdlEndC _ _ => some 0x4D
  | .sdobBdlEndS => some 0x4E
  | .sdobBulInitC _ _ _ _ => some 0x4F
  | .sdobBulInitS _ _ _ _ _ => some 0x50
  | .sdobBulStartC => some 0x51
  | .sdobBulAckC _ _ => some 0x52
  | .sdobBulEndS _ _ => some 0x53
  | .sdobBulEndC => some 0x54
  | .sdopAbort _ _ => some 0x60
  | .sdopSubblk _ _ => some 0x61
  | .sdopDlInitC _ _ => some 0x62
  | .sdopDlInitS _ _ => some 0x63
  | .sdopDlSegC _ _ => some 0x64
  | .sdopDlSegS _ _ => some 0x65
  | .sdopUlInitC _ _ => some 0x66
  | .sdopUlInitS _ _ => some 0x67
  | .sdopUlSegC _ _ => some 0x68
  | .sdopUlSegS _ _ => some 0x69
  | .sdopBdlInitC _ _ => some 0x6A
  | .sdopBdlInitS _ _ => some 0x6B
  | .sdopBdlAckS _ _ => some 0x6C
  | .sdopBdlEndC _ _ => some 0x6D
  | .sdopBdlEndS _ _ => some 0x6E
  | .sdopBulInitC _ _ => some 0x6F
  | .sdopBulInitS _ _ => some 0x70
  | .sdopBulStartC _ _ => some 0x71
  | .sdopBulAckC _ _ => some 0x72
  | .sdopBulEndS _ _ => some 0x73
  | .sdopBulEndC _ _ => some 0x74
  | .crcClr => some 0x80
  | .crcUpd _ _ => some 0x81
  | .crcRd => some 0x82
  | .crcChk _ => some 0x83
  | .wireRecW _ => none
  | .wireCob _ => none
  | .wireSdoAbort _ => none
  | .wireSdoSubblk _ => none
  | .wireSdoDlInitC _ => none
  | .wireSdoDlInitS _ => none
  | .wireSdoDlSegC _ => none
  | .wireSdoDlSegS _ => none
  | .wireSdoUlInitC _ => none
  | .wireSdoUlInitS _ => none
  | .wireSdoUlSegC _ => none
  | .wireSdoUlSegS _ => none
  | .wireSdoBdlInitC _ => none
  | .wireSdoBdlInitS _ => none
  | .wireSdoBdlAckS _ => none
  | .wireSdoBdlEndC _ => none
  | .wireSdoBdlEndS _ => none
  | .wireSdoBulInitC _ => none
  | .wireSdoBulInitS _ => none
  | .wireSdoBulStartC _ => none
  | .wireSdoBulAckC _ => none
  | .wireSdoBulEndS _ => none
  | .wireSdoBulEndC _ => none

/-- The selector of a request, where what stands at the port is one. -/
def portSelector : PortWord → Option (BitVec 8)
  | .op sel _ => some sel
  | _ => none

/-- The encoder writes the row's selector. -/
def Statement (i : Instr) : Prop := portSelector (encode i) = rowSelector i

theorem canfEnc (arbId : BitVec 29) (ext rtr err : Bool) (dlc : BitVec 4) (dat : Lanes 8) : Statement (.canfEnc arbId ext rtr err dlc dat) := rfl
theorem canfDec (recLen : BitVec 8) (record : Record) : Statement (.canfDec recLen record) := rfl
theorem cobCompose (fc node : BitVec 8) : Statement (.cobCompose fc node) := rfl
theorem cobDecompose (cob : BitVec 11) : Statement (.cobDecompose cob) := rfl
theorem cobClassify (arbId : BitVec 29) (ext rtr err : Bool) : Statement (.cobClassify arbId ext rtr err) := rfl
theorem sdoIdent (dir : Sender) (plen : BitVec 4) (pay : Payload) : Statement (.sdoIdent dir plen pay) := rfl
theorem sdobAbort (index : BitVec 16) (subidx : BitVec 8) (code : BitVec 32) : Statement (.sdobAbort index subidx code) := rfl
theorem sdobSubblk (c : Bool) (seqno : BitVec 7) (len : BitVec 4) (d : Lanes 7) : Statement (.sdobSubblk c seqno len d) := rfl
theorem sdobDlInitC (index : BitVec 16) (subidx : BitVec 8) (e s : Bool) (len : BitVec 4) (d : Lanes 4) (size : BitVec 32) : Statement (.sdobDlInitC index subidx e s len d size) := rfl
theorem sdobDlInitS (index : BitVec 16) (subidx : BitVec 8) : Statement (.sdobDlInitS index subidx) := rfl
theorem sdobDlSegC (t c : Bool) (len : BitVec 4) (d : Lanes 7) : Statement (.sdobDlSegC t c len d) := rfl
theorem sdobDlSegS (t : Bool) : Statement (.sdobDlSegS t) := rfl
theorem sdobUlInitC (index : BitVec 16) (subidx : BitVec 8) : Statement (.sdobUlInitC index subidx) := rfl
theorem sdobUlInitS (index : BitVec 16) (subidx : BitVec 8) (e s : Bool) (len : BitVec 4) (d : Lanes 4) (size : BitVec 32) : Statement (.sdobUlInitS index subidx e s len d size) := rfl
theorem sdobUlSegC (t : Bool) : Statement (.sdobUlSegC t) := rfl
theorem sdobUlSegS (t c : Bool) (len : BitVec 4) (d : Lanes 7) : Statement (.sdobUlSegS t c len d) := rfl
theorem sdobBdlInitC (index : BitVec 16) (subidx : BitVec 8) (crcsup s : Bool) (size : BitVec 32) : Statement (.sdobBdlInitC index subidx crcsup s size) := rfl
theorem sdobBdlInitS (index : BitVec 16) (subidx : BitVec 8) (crcsup : Bool) (blksize : BitVec 8) : Statement (.sdobBdlInitS index subidx crcsup blksize) := rfl
theorem sdobBdlAckS (ackseq blksize : BitVec 8) : Statement (.sdobBdlAckS ackseq blksize) := rfl
theorem sdobBdlEndC (n : BitVec 3) (crc : BitVec 16) : Statement (.sdobBdlEndC n crc) := rfl
theorem sdobBdlEndS : Statement (.sdobBdlEndS) := rfl
theorem sdobBulInitC (index : BitVec 16) (subidx : BitVec 8) (crcsup : Bool) (blksize : BitVec 8) : Statement (.sdobBulInitC index subidx crcsup blksize) := rfl
theorem sdobBulInitS (index : BitVec 16) (subidx : BitVec 8) (crcsup s : Bool) (size : BitVec 32) : Statement (.sdobBulInitS index subidx crcsup s size) := rfl
theorem sdobBulStartC : Statement (.sdobBulStartC) := rfl
theorem sdobBulAckC (ackseq blksize : BitVec 8) : Statement (.sdobBulAckC ackseq blksize) := rfl
theorem sdobBulEndS (n : BitVec 3) (crc : BitVec 16) : Statement (.sdobBulEndS n crc) := rfl
theorem sdobBulEndC : Statement (.sdobBulEndC) := rfl
theorem sdopAbort (plen : BitVec 4) (pay : Payload) : Statement (.sdopAbort plen pay) := rfl
theorem sdopSubblk (plen : BitVec 4) (pay : Payload) : Statement (.sdopSubblk plen pay) := rfl
theorem sdopDlInitC (plen : BitVec 4) (pay : Payload) : Statement (.sdopDlInitC plen pay) := rfl
theorem sdopDlInitS (plen : BitVec 4) (pay : Payload) : Statement (.sdopDlInitS plen pay) := rfl
theorem sdopDlSegC (plen : BitVec 4) (pay : Payload) : Statement (.sdopDlSegC plen pay) := rfl
theorem sdopDlSegS (plen : BitVec 4) (pay : Payload) : Statement (.sdopDlSegS plen pay) := rfl
theorem sdopUlInitC (plen : BitVec 4) (pay : Payload) : Statement (.sdopUlInitC plen pay) := rfl
theorem sdopUlInitS (plen : BitVec 4) (pay : Payload) : Statement (.sdopUlInitS plen pay) := rfl
theorem sdopUlSegC (plen : BitVec 4) (pay : Payload) : Statement (.sdopUlSegC plen pay) := rfl
theorem sdopUlSegS (plen : BitVec 4) (pay : Payload) : Statement (.sdopUlSegS plen pay) := rfl
theorem sdopBdlInitC (plen : BitVec 4) (pay : Payload) : Statement (.sdopBdlInitC plen pay) := rfl
theorem sdopBdlInitS (plen : BitVec 4) (pay : Payload) : Statement (.sdopBdlInitS plen pay) := rfl
theorem sdopBdlAckS (plen : BitVec 4) (pay : Payload) : Statement (.sdopBdlAckS plen pay) := rfl
theorem sdopBdlEndC (plen : BitVec 4) (pay : Payload) : Statement (.sdopBdlEndC plen pay) := rfl
theorem sdopBdlEndS (plen : BitVec 4) (pay : Payload) : Statement (.sdopBdlEndS plen pay) := rfl
theorem sdopBulInitC (plen : BitVec 4) (pay : Payload) : Statement (.sdopBulInitC plen pay) := rfl
theorem sdopBulInitS (plen : BitVec 4) (pay : Payload) : Statement (.sdopBulInitS plen pay) := rfl
theorem sdopBulStartC (plen : BitVec 4) (pay : Payload) : Statement (.sdopBulStartC plen pay) := rfl
theorem sdopBulAckC (plen : BitVec 4) (pay : Payload) : Statement (.sdopBulAckC plen pay) := rfl
theorem sdopBulEndS (plen : BitVec 4) (pay : Payload) : Statement (.sdopBulEndS plen pay) := rfl
theorem sdopBulEndC (plen : BitVec 4) (pay : Payload) : Statement (.sdopBulEndC plen pay) := rfl
theorem crcClr : Statement (.crcClr) := rfl
theorem crcUpd (len : BitVec 4) (dat : Lanes 8) : Statement (.crcUpd len dat) := rfl
theorem crcRd : Statement (.crcRd) := rfl
theorem crcChk (crc : BitVec 16) : Statement (.crcChk crc) := rfl
theorem wireRecW (w : BitVec 32) : Statement (.wireRecW w) := rfl
theorem wireCob (id : BitVec 11) : Statement (.wireCob id) := rfl
theorem wireSdoAbort (pay : Payload) : Statement (.wireSdoAbort pay) := rfl
theorem wireSdoSubblk (pay : Payload) : Statement (.wireSdoSubblk pay) := rfl
theorem wireSdoDlInitC (pay : Payload) : Statement (.wireSdoDlInitC pay) := rfl
theorem wireSdoDlInitS (pay : Payload) : Statement (.wireSdoDlInitS pay) := rfl
theorem wireSdoDlSegC (pay : Payload) : Statement (.wireSdoDlSegC pay) := rfl
theorem wireSdoDlSegS (pay : Payload) : Statement (.wireSdoDlSegS pay) := rfl
theorem wireSdoUlInitC (pay : Payload) : Statement (.wireSdoUlInitC pay) := rfl
theorem wireSdoUlInitS (pay : Payload) : Statement (.wireSdoUlInitS pay) := rfl
theorem wireSdoUlSegC (pay : Payload) : Statement (.wireSdoUlSegC pay) := rfl
theorem wireSdoUlSegS (pay : Payload) : Statement (.wireSdoUlSegS pay) := rfl
theorem wireSdoBdlInitC (pay : Payload) : Statement (.wireSdoBdlInitC pay) := rfl
theorem wireSdoBdlInitS (pay : Payload) : Statement (.wireSdoBdlInitS pay) := rfl
theorem wireSdoBdlAckS (pay : Payload) : Statement (.wireSdoBdlAckS pay) := rfl
theorem wireSdoBdlEndC (pay : Payload) : Statement (.wireSdoBdlEndC pay) := rfl
theorem wireSdoBdlEndS (pay : Payload) : Statement (.wireSdoBdlEndS pay) := rfl
theorem wireSdoBulInitC (pay : Payload) : Statement (.wireSdoBulInitC pay) := rfl
theorem wireSdoBulInitS (pay : Payload) : Statement (.wireSdoBulInitS pay) := rfl
theorem wireSdoBulStartC (pay : Payload) : Statement (.wireSdoBulStartC pay) := rfl
theorem wireSdoBulAckC (pay : Payload) : Statement (.wireSdoBulAckC pay) := rfl
theorem wireSdoBulEndS (pay : Payload) : Statement (.wireSdoBulEndS pay) := rfl
theorem wireSdoBulEndC (pay : Payload) : Statement (.wireSdoBulEndC pay) := rfl

end Sys2Proof.Laws.SelectorOfRow
end

