-- ==== Sys2Proof/Laws/Sdo.lean ====
section
/-! SUPPORT. What each shared builder builds, lane by lane, and what the shared parser answers, said once. -/

namespace Sys2Proof.Machine

/-! ### Builders (42_sdo_common.md R141) -/

/-- A command byte and nothing else. -/
theorem setCmd_beginBuild (cs : BitVec 3) (low5 : BitVec 5) :
    setCmd cs low5 beginBuild = #v[cs ++ low5, 0, 0, 0, 0, 0, 0, 0] := rfl

/-- A command byte with index and subindex. -/
theorem setAddr_setCmd (cs : BitVec 3) (low5 : BitVec 5) (index : BitVec 16) (subidx : BitVec 8) :
    setAddr index subidx (setCmd cs low5 beginBuild) =
      #v[cs ++ low5, index.extractLsb' 0 8, index.extractLsb' 8 8, subidx, 0, 0, 0, 0] := rfl

theorem buildInitPlain_eq (cs : BitVec 3) (index : BitVec 16) (subidx : BitVec 8) :
    buildInitPlain cs index subidx = .ok (.payload
      #v[cs ++ 0#5, index.extractLsb' 0 8, index.extractLsb' 8 8, subidx, 0, 0, 0, 0]) := rfl

theorem buildSegPlain_eq (cs : BitVec 3) (t : Bool) :
    buildSegPlain cs t = .ok (.payload #v[cs ++ segLow t 0 false, 0, 0, 0, 0, 0, 0, 0]) := rfl

theorem buildBlkInitSize_eq (cs : BitVec 3) (index : BitVec 16) (subidx : BitVec 8) (crcsup s : Bool)
    (size : BitVec 32) :
    buildBlkInitSize cs index subidx crcsup s size = .ok (.payload
      #v[cs ++ blkSizeLow crcsup s, index.extractLsb' 0 8, index.extractLsb' 8 8, subidx,
        if s then size.extractLsb' 0 8 else 0, if s then size.extractLsb' 8 8 else 0,
        if s then size.extractLsb' 16 8 else 0, if s then size.extractLsb' 24 8 else 0]) := by
  cases s <;> rfl

theorem buildBlkInitWindow_eq (cs : BitVec 3) (index : BitVec 16) (subidx : BitVec 8) (crcsup : Bool)
    (blksize : BitVec 8) :
    buildBlkInitWindow cs index subidx crcsup blksize = .ok (.payload
      #v[cs ++ blkWindowLow crcsup, index.extractLsb' 0 8, index.extractLsb' 8 8, subidx, blksize, 0, 0, 0]) := rfl

theorem buildBlkAck_eq (cs : BitVec 3) (ackseq blksize : BitVec 8) :
    buildBlkAck cs ackseq blksize = .ok (.payload
      #v[cs ++ blkLow Config.subResponse, ackseq, blksize, 0, 0, 0, 0, 0]) := rfl

theorem buildBlkEnd_eq (cs : BitVec 3) (n : BitVec 3) (crc : BitVec 16) :
    buildBlkEnd cs n crc = .ok (.payload
      #v[cs ++ blkEndLow n, crc.extractLsb' 0 8, crc.extractLsb' 8 8, 0, 0, 0, 0, 0]) := rfl

theorem buildBlkPlain_eq (cs : BitVec 3) (sub : BitVec 2) :
    buildBlkPlain cs sub = .ok (.payload #v[cs ++ blkLow sub, 0, 0, 0, 0, 0, 0, 0]) := rfl

theorem buildSegData_bad (cs : BitVec 3) (t c : Bool) (len : BitVec 4) (d : Lanes 7) (h : 7 < len.toNat) :
    buildSegData cs t c len d = .raised .badOperand := by
  simp only [buildSegData, (badSegLen_iff len).2 h, if_true]

theorem buildSegData_good (cs : BitVec 3) (t c : Bool) (len : BitVec 4) (d : Lanes 7) (h : len.toNat ≤ 7) :
    buildSegData cs t c len d = .ok (.payload
      (putLanes #v[cs ++ segLow t (segUnused len) c, 0, 0, 0, 0, 0, 0, 0] 1 len.toNat d)) := by
  have hb : badSegLen len = false := by rw [← Bool.not_eq_true, badSegLen_iff]; omega
  simp only [buildSegData, hb, setCmd_beginBuild]; rfl

theorem buildInitData_bad (cs : BitVec 3) (index : BitVec 16) (subidx : BitVec 8) (e s : Bool) (len : BitVec 4)
    (d : Lanes 4) (size : BitVec 32) (h : e = true ∧ s = true ∧ (len.toNat < 1 ∨ 4 < len.toNat)) :
    buildInitData cs index subidx e s len d size = .raised .badOperand := by
  simp only [buildInitData, (badInitLen_iff e s len).2 h, if_true]

theorem buildInitData_good (cs : BitVec 3) (index : BitVec 16) (subidx : BitVec 8) (e s : Bool) (len : BitVec 4)
    (d : Lanes 4) (size : BitVec 32) (h : ¬(e = true ∧ s = true ∧ (len.toNat < 1 ∨ 4 < len.toNat))) :
    buildInitData cs index subidx e s len d size = .ok (.payload
      (if e then putLanes (setAddr index subidx (setCmd cs (initLow (if s then initUnused len else 0) e s) beginBuild))
          4 (if s then len.toNat else 4) d
       else if s then put32 (setAddr index subidx (setCmd cs (initLow 0 e s) beginBuild)) 4 size
       else setAddr index subidx (setCmd cs (initLow 0 e s) beginBuild))) := by
  have hb : badInitLen e s len = false := by rw [← Bool.not_eq_true, badInitLen_iff]; exact h
  cases e <;> cases s <;> simp only [buildInitData, hb] <;> rfl

/-! ### Parsers (42_sdo_common.md R142) -/

theorem cmdSpec_toNat (b0 : Byte) : (cmdSpec b0).toNat = b0.toNat / 32 := by
  revert b0; decide +kernel

theorem subField_toNat (b0 : Byte) : (subField b0).toNat = b0.toNat % 4 := by
  revert b0; decide +kernel

/-- The shared parser, as `parserAnswer` says it. -/
theorem expect_eq_parserAnswer (m : CsMap) (dir : Sender) (want : BitVec 3) (sub : Option (BitVec 2))
    (plen : BitVec 4) (pay : Payload) (fields : Results) :
    expect m dir want sub plen pay fields = parserAnswer want
      (match sub with | none => true | some v => blkSub m dir want pay[0] == v) plen pay fields := by
  have hc : ∀ v : BitVec 3, pay[0].toNat / 32 = v.toNat ↔ cmdSpec pay[0] = v := by
    intro v; rw [← cmdSpec_toNat]; exact BitVec.toNat_inj
  have h4 : pay[0].toNat / 32 = 4 ↔ cmdSpec pay[0] = Config.csAbort := hc Config.csAbort
  unfold expect parserAnswer
  by_cases hp : plen = 8
  · subst hp
    rw [if_neg (show ¬badPlen (8 : BitVec 4) = true by decide), if_neg (show ¬(8 : BitVec 4) ≠ 8 by decide)]
    by_cases ha : cmdSpec pay[0] = Config.csAbort ∧ want ≠ Config.csAbort
    · have h4' : pay[0].toNat / 32 = 4 ∧ want ≠ 4 := ⟨h4.2 ha.1, ha.2⟩
      have hb : (cmdSpec pay[0] == Config.csAbort && want != Config.csAbort) = true := by simpa using ha
      rw [if_pos hb, if_pos h4']; rfl
    · have h4' : ¬(pay[0].toNat / 32 = 4 ∧ want ≠ 4) := fun h => ha ⟨h4.1 h.1, h.2⟩
      have hb : ¬(cmdSpec pay[0] == Config.csAbort && want != Config.csAbort) = true := by simpa using ha
      rw [if_neg hb, if_neg h4']
      by_cases hw : cmdSpec pay[0] = want
      · have hw' := (hc want).2 hw
        rw [if_neg (show ¬(cmdSpec pay[0] != want) = true by simp [hw])]
        cases sub with
        | none => simp [hw']
        | some v => by_cases hs : blkSub m dir want pay[0] = v <;> simp [hw, hw', hs]
      · have hw' : pay[0].toNat / 32 ≠ want.toNat := fun h => hw ((hc want).1 h)
        rw [if_pos (show (cmdSpec pay[0] != want) = true by simpa using hw)]
        exact (if_pos (Or.inl hw')).symm
  · rw [if_pos ((badPlen_iff plen).2 hp), if_pos hp]

end Sys2Proof.Machine
end

