-- ==== Sys2Proof/Tests/Slice0.lean ====
section
/-! SUPPORT. Tests: ill-formed terms the checks refuse, words written out from the encodings of 30_encoding.md, one
step per instruction with the operands and answers of 95_test_vectors.md, and a witness for the hypotheses of every
obligation that has some. -/

namespace Sys2Proof.Tests
open Sys2Proof.Machine

/-- The reset state with another accumulator value. -/
def holding (v : BitVec 16) : State := { State.reset with crcacc := v }

/-- That state with one request pending. -/
def issuing (v : BitVec 16) (w : PortWord) : State := { holding v with inputs := [.issue w] }

/-- The response and the accumulator one step after an instruction was issued. -/
def after (v : BitVec 16) (i : Instr) : Option (Response × BitVec 16) :=
  match step (issuing v (encode i)) with
  | .next t => t.response.map fun r => (r, t.crcacc)
  | .fault _ => none
  | .refused _ => none

/-- A payload with a command byte and other lanes 0. -/
def cmd (b0 : Byte) : Payload := commandOnly b0

/-! ### Ill-formed terms: byte 0 has not the pattern of the kind (30_encoding.md R75, R79) -/

theorem test_wellFormed_refuses_abort : (Instr.wireSdoAbort (cmd 0xA0)).wellFormed CsMap.default = false := by decide
theorem test_wellFormed_refuses_subblk : (Instr.wireSdoSubblk (cmd 0x80)).wellFormed CsMap.default = false := by decide
theorem test_wellFormed_refuses_dlInitC : (Instr.wireSdoDlInitC (cmd 0x40)).wellFormed CsMap.default = false := by decide
theorem test_wellFormed_refuses_dlInitS : (Instr.wireSdoDlInitS (cmd 0x20)).wellFormed CsMap.default = false := by decide
theorem test_wellFormed_refuses_dlSegC : (Instr.wireSdoDlSegC (cmd 0x20)).wellFormed CsMap.default = false := by decide
theorem test_wellFormed_refuses_dlSegS : (Instr.wireSdoDlSegS (cmd 0x00)).wellFormed CsMap.default = false := by decide
theorem test_wellFormed_refuses_ulInitC : (Instr.wireSdoUlInitC (cmd 0x20)).wellFormed CsMap.default = false := by decide
theorem test_wellFormed_refuses_ulInitS : (Instr.wireSdoUlInitS (cmd 0x60)).wellFormed CsMap.default = false := by decide
theorem test_wellFormed_refuses_ulSegC : (Instr.wireSdoUlSegC (cmd 0x40)).wellFormed CsMap.default = false := by decide
theorem test_wellFormed_refuses_ulSegS : (Instr.wireSdoUlSegS (cmd 0x20)).wellFormed CsMap.default = false := by decide
theorem test_wellFormed_refuses_bdlInitC : (Instr.wireSdoBdlInitC (cmd 0xC1)).wellFormed CsMap.default = false := by decide
theorem test_wellFormed_refuses_bdlInitS : (Instr.wireSdoBdlInitS (cmd 0xA2)).wellFormed CsMap.default = false := by decide
theorem test_wellFormed_refuses_bdlAckS : (Instr.wireSdoBdlAckS (cmd 0xA1)).wellFormed CsMap.default = false := by decide
theorem test_wellFormed_refuses_bdlEndC : (Instr.wireSdoBdlEndC (cmd 0xC3)).wellFormed CsMap.default = false := by decide
theorem test_wellFormed_refuses_bdlEndS : (Instr.wireSdoBdlEndS (cmd 0xA0)).wellFormed CsMap.default = false := by decide
theorem test_wellFormed_refuses_bulInitC : (Instr.wireSdoBulInitC (cmd 0xA1)).wellFormed CsMap.default = false := by decide
theorem test_wellFormed_refuses_bulInitS : (Instr.wireSdoBulInitS (cmd 0xC1)).wellFormed CsMap.default = false := by decide
theorem test_wellFormed_refuses_bulStartC : (Instr.wireSdoBulStartC (cmd 0xA2)).wellFormed CsMap.default = false := by decide
theorem test_wellFormed_refuses_bulAckC : (Instr.wireSdoBulAckC (cmd 0xA3)).wellFormed CsMap.default = false := by decide
theorem test_wellFormed_refuses_bulEndS : (Instr.wireSdoBulEndS (cmd 0xC0)).wellFormed CsMap.default = false := by decide
theorem test_wellFormed_refuses_bulEndC : (Instr.wireSdoBulEndC (cmd 0xA2)).wellFormed CsMap.default = false := by decide
theorem test_wellFormed_refuses_block_specifier :
    (Instr.wireSdoBdlInitC (cmd 0xA0)).wellFormed CsMap.default = false ∧
    (Instr.wireSdoBulAckC (cmd 0xC2)).wellFormed CsMap.default = false := by decide

/-! ### Selectors (R91), each written out -/

theorem test_decode_frame :
    decodeTableWord 8 0x10 = some (.canfEnc 0 false false false 0 (zeroLanes 8)) ∧
    decodeTableWord 8 0x11 = some (.canfDec 0 (zeroLanes 16)) := by decide
theorem test_decode_cob :
    decodeTableWord 8 0x20 = some (.cobCompose 0 0) ∧
    decodeTableWord 8 0x21 = some (.cobDecompose 0) ∧
    decodeTableWord 8 0x22 = some (.cobClassify 0 false false false) := by decide
theorem test_decode_ident :
    decodeTableWord 8 0x30 = some (.sdoIdent .client 0 (zeroLanes 8)) := by decide
theorem test_decode_builders_transfer :
    decodeTableWord 8 0x40 = some (.sdobAbort 0 0 0) ∧
    decodeTableWord 8 0x41 = some (.sdobSubblk false 0 0 (zeroLanes 7)) ∧
    decodeTableWord 8 0x42 = some (.sdobDlInitC 0 0 false false 0 (zeroLanes 4) 0) ∧
    decodeTableWord 8 0x43 = some (.sdobDlInitS 0 0) ∧
    decodeTableWord 8 0x44 = some (.sdobDlSegC false false 0 (zeroLanes 7)) ∧
    decodeTableWord 8 0x45 = some (.sdobDlSegS false) ∧
    decodeTableWord 8 0x46 = some (.sdobUlInitC 0 0) ∧
    decodeTableWord 8 0x47 = some (.sdobUlInitS 0 0 false false 0 (zeroLanes 4) 0) ∧
    decodeTableWord 8 0x48 = some (.sdobUlSegC false) ∧
    decodeTableWord 8 0x49 = some (.sdobUlSegS false false 0 (zeroLanes 7)) := by decide
theorem test_decode_builders_block :
    decodeTableWord 8 0x4A = some (.sdobBdlInitC 0 0 false false 0) ∧
    decodeTableWord 8 0x4B = some (.sdobBdlInitS 0 0 false 0) ∧
    decodeTableWord 8 0x4C = some (.sdobBdlAckS 0 0) ∧
    decodeTableWord 8 0x4D = some (.sdobBdlEndC 0 0) ∧
    decodeTableWord 8 0x4E = some (.sdobBdlEndS) ∧
    decodeTableWord 8 0x4F = some (.sdobBulInitC 0 0 false 0) ∧
    decodeTableWord 8 0x50 = some (.sdobBulInitS 0 0 false false 0) ∧
    decodeTableWord 8 0x51 = some (.sdobBulStartC) ∧
    decodeTableWord 8 0x52 = some (.sdobBulAckC 0 0) ∧
    decodeTableWord 8 0x53 = some (.sdobBulEndS 0 0) ∧
    decodeTableWord 8 0x54 = some (.sdobBulEndC) := by decide
theorem test_decode_parsers_transfer :
    decodeTableWord 8 0x60 = some (.sdopAbort 0 (zeroLanes 8)) ∧
    decodeTableWord 8 0x61 = some (.sdopSubblk 0 (zeroLanes 8)) ∧
    decodeTableWord 8 0x62 = some (.sdopDlInitC 0 (zeroLanes 8)) ∧
    decodeTableWord 8 0x63 = some (.sdopDlInitS 0 (zeroLanes 8)) ∧
    decodeTableWord 8 0x64 = some (.sdopDlSegC 0 (zeroLanes 8)) ∧
    decodeTableWord 8 0x65 = some (.sdopDlSegS 0 (zeroLanes 8)) ∧
    decodeTableWord 8 0x66 = some (.sdopUlInitC 0 (zeroLanes 8)) ∧
    decodeTableWord 8 0x67 = some (.sdopUlInitS 0 (zeroLanes 8)) ∧
    decodeTableWord 8 0x68 = some (.sdopUlSegC 0 (zeroLanes 8)) ∧
    decodeTableWord 8 0x69 = some (.sdopUlSegS 0 (zeroLanes 8)) := by decide
theorem test_decode_parsers_block :
    decodeTableWord 8 0x6A = some (.sdopBdlInitC 0 (zeroLanes 8)) ∧
    decodeTableWord 8 0x6B = some (.sdopBdlInitS 0 (zeroLanes 8)) ∧
    decodeTableWord 8 0x6C = some (.sdopBdlAckS 0 (zeroLanes 8)) ∧
    decodeTableWord 8 0x6D = some (.sdopBdlEndC 0 (zeroLanes 8)) ∧
    decodeTableWord 8 0x6E = some (.sdopBdlEndS 0 (zeroLanes 8)) ∧
    decodeTableWord 8 0x6F = some (.sdopBulInitC 0 (zeroLanes 8)) ∧
    decodeTableWord 8 0x70 = some (.sdopBulInitS 0 (zeroLanes 8)) ∧
    decodeTableWord 8 0x71 = some (.sdopBulStartC 0 (zeroLanes 8)) ∧
    decodeTableWord 8 0x72 = some (.sdopBulAckC 0 (zeroLanes 8)) ∧
    decodeTableWord 8 0x73 = some (.sdopBulEndS 0 (zeroLanes 8)) ∧
    decodeTableWord 8 0x74 = some (.sdopBulEndC 0 (zeroLanes 8)) := by decide
theorem test_decode_crc :
    decodeTableWord 8 0x80 = some (.crcClr) ∧
    decodeTableWord 8 0x81 = some (.crcUpd 0 (zeroLanes 8)) ∧
    decodeTableWord 8 0x82 = some (.crcRd) ∧
    decodeTableWord 8 0x83 = some (.crcChk 0) := by decide
theorem test_decode_reads_the_operands :
    decode CsMap.default (.op 0x42 { index := 0x1018, subidx := 1, e := true, s := true, len := 2, d := #v[7, 8, 9, 10, 11, 12, 13] })
      = .ok (.sdobDlInitC 0x1018 1 true true 2 #v[7, 8, 9, 10] 0) ∧
    decode CsMap.default (.op 0x22 { arbId := 0x585, rtr := true }) = .ok (.cobClassify 0x585 false true false) := by decide
theorem test_decode_refuses_other_selectors :
    decode CsMap.default (.op 0x00 {}) = .error (.illegalOp 0x00) ∧
    decode CsMap.default (.op 0x55 {}) = .error (.illegalOp 0x55) ∧
    decode CsMap.default (.op 0x75 {}) = .error (.illegalOp 0x75) ∧
    decode CsMap.default (.op 0x84 {}) = .error (.illegalOp 0x84) ∧
    decode CsMap.default (.op 0xFF {}) = .error (.illegalOp 0xFF) := by decide

/-! ### Wire items (R61, R63, R75 to R79), bits written out; don't-care bits set -/

theorem test_decode_words :
    decodeTableWord 32 0b10010010001101000101011001111000 = some (.wireRecW 0x92345678) ∧
    decodeTableWord 16 0b0000011000000101 = some (.wireCob 0x605) := by decide
theorem test_decode_wire_abort :
    decode CsMap.default (.envelope .client (cmd 0b10011111)) = .ok (.wireSdoAbort (cmd 0b10011111)) := by decide
theorem test_decode_wire_subblk :
    decode CsMap.default (.subblock (cmd 0b10000011)) = .ok (.wireSdoSubblk (cmd 0b10000011)) := by decide
theorem test_decode_wire_dlInitC :
    decode CsMap.default (.envelope .client (cmd 0b00111011)) = .ok (.wireSdoDlInitC (cmd 0b00111011)) := by decide
theorem test_decode_wire_dlInitS :
    decode CsMap.default (.envelope .server (cmd 0b01111111)) = .ok (.wireSdoDlInitS (cmd 0b01111111)) := by decide
theorem test_decode_wire_dlSegC :
    decode CsMap.default (.envelope .client (cmd 0b00011101)) = .ok (.wireSdoDlSegC (cmd 0b00011101)) := by decide
theorem test_decode_wire_dlSegS :
    decode CsMap.default (.envelope .server (cmd 0b00110000)) = .ok (.wireSdoDlSegS (cmd 0b00110000)) := by decide
theorem test_decode_wire_ulInitC :
    decode CsMap.default (.envelope .client (cmd 0b01011111)) = .ok (.wireSdoUlInitC (cmd 0b01011111)) := by decide
theorem test_decode_wire_ulInitS :
    decode CsMap.default (.envelope .server (cmd 0b01000001)) = .ok (.wireSdoUlInitS (cmd 0b01000001)) := by decide
theorem test_decode_wire_ulSegC :
    decode CsMap.default (.envelope .client (cmd 0b01110000)) = .ok (.wireSdoUlSegC (cmd 0b01110000)) := by decide
theorem test_decode_wire_ulSegS :
    decode CsMap.default (.envelope .server (cmd 0b00001011)) = .ok (.wireSdoUlSegS (cmd 0b00001011)) := by decide
theorem test_decode_wire_bdlInitC :
    decode CsMap.default (.envelope .client (cmd 0b11011110)) = .ok (.wireSdoBdlInitC (cmd 0b11011110)) := by decide
theorem test_decode_wire_bdlInitS :
    decode CsMap.default (.envelope .server (cmd 0b10111100)) = .ok (.wireSdoBdlInitS (cmd 0b10111100)) := by decide
theorem test_decode_wire_bdlAckS :
    decode CsMap.default (.envelope .server (cmd 0b10111110)) = .ok (.wireSdoBdlAckS (cmd 0b10111110)) := by decide
theorem test_decode_wire_bdlEndC :
    decode CsMap.default (.envelope .client (cmd 0b11010101)) = .ok (.wireSdoBdlEndC (cmd 0b11010101)) := by decide
theorem test_decode_wire_bdlEndS :
    decode CsMap.default (.envelope .server (cmd 0b10111101)) = .ok (.wireSdoBdlEndS (cmd 0b10111101)) := by decide
theorem test_decode_wire_bulInitC :
    decode CsMap.default (.envelope .client (cmd 0b10111100)) = .ok (.wireSdoBulInitC (cmd 0b10111100)) := by decide
theorem test_decode_wire_bulInitS :
    decode CsMap.default (.envelope .server (cmd 0b11011110)) = .ok (.wireSdoBulInitS (cmd 0b11011110)) := by decide
theorem test_decode_wire_bulStartC :
    decode CsMap.default (.envelope .client (cmd 0b10111111)) = .ok (.wireSdoBulStartC (cmd 0b10111111)) := by decide
theorem test_decode_wire_bulAckC :
    decode CsMap.default (.envelope .client (cmd 0b10111110)) = .ok (.wireSdoBulAckC (cmd 0b10111110)) := by decide
theorem test_decode_wire_bulEndS :
    decode CsMap.default (.envelope .server (cmd 0b11011101)) = .ok (.wireSdoBulEndS (cmd 0b11011101)) := by decide
theorem test_decode_wire_bulEndC :
    decode CsMap.default (.envelope .client (cmd 0b10111101)) = .ok (.wireSdoBulEndC (cmd 0b10111101)) := by decide
theorem test_decode_refuses_unrecognised_bytes :
    decode CsMap.default (.envelope .client (cmd 0b11000011)) = .error (.unrecognisedCommand .client 0xC3) ∧
    decode CsMap.default (.envelope .server (cmd 0b10100011)) = .error (.unrecognisedCommand .server 0xA3) ∧
    decode CsMap.default (.envelope .server (cmd 0b11100000)) = .error (.unrecognisedCommand .server 0xE0) ∧
    decode CsMap.default (.subblock (cmd 0b00000000)) = .error .sequenceZero := by decide
theorem test_fetch_word_is_run :
    step (State.reset.withFetchWord 8 0x82) = exec .crcRd State.reset ∧
    step (State.reset.withFetchWord 16 0x605) = exec (.wireCob 0x605) State.reset ∧
    step (State.reset.withFetchWord 8 0xC1) = exec (.wireSdoBdlEndC (cmd 0xC1)) State.reset := ⟨rfl, rfl, rfl⟩

/-! ### One step each, with vectors of 95_test_vectors.md -/

theorem test_canfEnc_answers :
    after 0x1234 (.canfEnc 0x12345678 true false false 0x3 #v[0xAA,0xBB,0xCC,0xDD,0xEE,0xFF,0x11,0x22])
      = some (.ok (.record #v[0x78,0x56,0x34,0x92,0x03,0x00,0x00,0x00,0xAA,0xBB,0xCC,0x00,0x00,0x00,0x00,0x00]), 0x1234) := by decide
theorem test_canfEnc_raises :
    after 0x1234 (.canfEnc 0x605 false false false 0x9 #v[0x00,0x00,0x00,0x00,0x00,0x00,0x00,0x00])
      = some (.raised .badOperand, 0x1234) := by decide
theorem test_canfDec_answers :
    after 0x1234 (.canfDec 0x10 #v[0x78,0x56,0x34,0x92,0x03,0x00,0x00,0x00,0xAA,0xBB,0xCC,0xDD,0xEE,0xFF,0x11,0x22])
      = some (.ok (.frame ⟨0x12345678,true,false,false,3,#v[0xAA,0xBB,0xCC,0x00,0x00,0x00,0x00,0x00]⟩), 0x1234) := by decide
theorem test_canfDec_raises :
    after 0x1234 (.canfDec 0x10 #v[0x85,0x05,0x00,0x00,0x08,0x01,0x00,0x00,0x41,0x18,0x10,0x01,0x0A,0x00,0x00,0x00])
      = some (.raised .malformedFrame, 0x1234) := by decide
theorem test_cobCompose_answers :
    after 0x1234 (.cobCompose 0xc 0x5)
      = some (.ok (.cobId 0x605), 0x1234) := by decide
theorem test_cobDecompose_answers :
    after 0x1234 (.cobDecompose 0x605)
      = some (.ok (.cobFields 12 5), 0x1234) := by decide
theorem test_cobClassify_answers :
    after 0x1234 (.cobClassify 0x585 false true false)
      = some (.ok (.classification ⟨true,.sdoTx,11,5,0,false⟩), 0x1234) := by decide
theorem test_sdoIdent_answers :
    after 0x1234 (.sdoIdent .client 0x8 #v[0x2B,0x18,0x10,0x01,0x01,0x02,0x00,0x00])
      = some (.ok (.kindOnly .dlInitC), 0x1234) := by decide
theorem test_sdoIdent_raises :
    after 0x1234 (.sdoIdent .client 0x0 #v[0x00,0x00,0x00,0x00,0x00,0x00,0x00,0x00])
      = some (.raised .malformedSdo, 0x1234) := by decide
theorem test_sdobAbort_answers :
    after 0x1234 (.sdobAbort 0x1018 0x1 0x5040000)
      = some (.ok (.payload #v[0x80,0x18,0x10,0x01,0x00,0x00,0x04,0x05]), 0x1234) := by decide
theorem test_sdobSubblk_answers :
    after 0x1234 (.sdobSubblk true 0x3 0x6 #v[0x0F,0x10,0x11,0x12,0x13,0x14,0x00])
      = some (.ok (.payload #v[0x83,0x0F,0x10,0x11,0x12,0x13,0x14,0x00]), 0x1234) := by decide
theorem test_sdobSubblk_raises :
    after 0x1234 (.sdobSubblk false 0x1 0x8 #v[0x00,0x00,0x00,0x00,0x00,0x00,0x00])
      = some (.raised .badOperand, 0x1234) := by decide
theorem test_sdobDlInitC_answers :
    after 0x1234 (.sdobDlInitC 0x1018 0x1 true true 0x4 #v[0x01,0x02,0x03,0x04] 0x0)
      = some (.ok (.payload #v[0x23,0x18,0x10,0x01,0x01,0x02,0x03,0x04]), 0x1234) := by decide
theorem test_sdobDlInitC_raises :
    after 0x1234 (.sdobDlInitC 0x1018 0x1 true true 0x5 #v[0x01,0x02,0x03,0x04] 0x0)
      = some (.raised .badOperand, 0x1234) := by decide
theorem test_sdobDlInitS_answers :
    after 0x1234 (.sdobDlInitS 0x1018 0x1)
      = some (.ok (.payload #v[0x60,0x18,0x10,0x01,0x00,0x00,0x00,0x00]), 0x1234) := by decide
theorem test_sdobDlSegC_answers :
    after 0x1234 (.sdobDlSegC true true 0x3 #v[0x08,0x09,0x0A,0x00,0x00,0x00,0x00])
      = some (.ok (.payload #v[0x19,0x08,0x09,0x0A,0x00,0x00,0x00,0x00]), 0x1234) := by decide
theorem test_sdobDlSegC_raises :
    after 0x1234 (.sdobDlSegC false false 0x8 #v[0x00,0x00,0x00,0x00,0x00,0x00,0x00])
      = some (.raised .badOperand, 0x1234) := by decide
theorem test_sdobDlSegS_answers :
    after 0x1234 (.sdobDlSegS true)
      = some (.ok (.payload #v[0x30,0x00,0x00,0x00,0x00,0x00,0x00,0x00]), 0x1234) := by decide
theorem test_sdobUlInitC_answers :
    after 0x1234 (.sdobUlInitC 0x1018 0x1)
      = some (.ok (.payload #v[0x40,0x18,0x10,0x01,0x00,0x00,0x00,0x00]), 0x1234) := by decide
theorem test_sdobUlInitS_answers :
    after 0x1234 (.sdobUlInitS 0x1000 0x0 true true 0x4 #v[0x91,0x01,0x0F,0x00] 0x0)
      = some (.ok (.payload #v[0x43,0x00,0x10,0x00,0x91,0x01,0x0F,0x00]), 0x1234) := by decide
theorem test_sdobUlSegC_answers :
    after 0x1234 (.sdobUlSegC true)
      = some (.ok (.payload #v[0x70,0x00,0x00,0x00,0x00,0x00,0x00,0x00]), 0x1234) := by decide
theorem test_sdobUlSegS_answers :
    after 0x1234 (.sdobUlSegS false false 0x7 #v[0x11,0x12,0x13,0x14,0x15,0x16,0x17])
      = some (.ok (.payload #v[0x00,0x11,0x12,0x13,0x14,0x15,0x16,0x17]), 0x1234) := by decide
theorem test_sdobBdlInitC_answers :
    after 0x1234 (.sdobBdlInitC 0x2000 0x0 false true 0x1020304)
      = some (.ok (.payload #v[0xC2,0x00,0x20,0x00,0x04,0x03,0x02,0x01]), 0x1234) := by decide
theorem test_sdobBdlInitS_answers :
    after 0x1234 (.sdobBdlInitS 0x2000 0x0 true 0x7f)
      = some (.ok (.payload #v[0xA4,0x00,0x20,0x00,0x7F,0x00,0x00,0x00]), 0x1234) := by decide
theorem test_sdobBdlAckS_answers :
    after 0x1234 (.sdobBdlAckS 0x3 0x7f)
      = some (.ok (.payload #v[0xA2,0x03,0x7F,0x00,0x00,0x00,0x00,0x00]), 0x1234) := by decide
theorem test_sdobBdlEndC_answers :
    after 0x1234 (.sdobBdlEndC 0x1 0xead3)
      = some (.ok (.payload #v[0xC5,0xD3,0xEA,0x00,0x00,0x00,0x00,0x00]), 0x1234) := by decide
theorem test_sdobBdlEndS_answers :
    after 0x1234 (.sdobBdlEndS)
      = some (.ok (.payload #v[0xA1,0x00,0x00,0x00,0x00,0x00,0x00,0x00]), 0x1234) := by decide
theorem test_sdobBulInitC_answers :
    after 0x1234 (.sdobBulInitC 0x2000 0x0 true 0x7f)
      = some (.ok (.payload #v[0xA4,0x00,0x20,0x00,0x7F,0x00,0x00,0x00]), 0x1234) := by decide
theorem test_sdobBulInitS_answers :
    after 0x1234 (.sdobBulInitS 0x2000 0x0 true true 0x14)
      = some (.ok (.payload #v[0xC6,0x00,0x20,0x00,0x14,0x00,0x00,0x00]), 0x1234) := by decide
theorem test_sdobBulStartC_answers :
    after 0x1234 (.sdobBulStartC)
      = some (.ok (.payload #v[0xA3,0x00,0x00,0x00,0x00,0x00,0x00,0x00]), 0x1234) := by decide
theorem test_sdobBulAckC_answers :
    after 0x1234 (.sdobBulAckC 0x3 0x7f)
      = some (.ok (.payload #v[0xA2,0x03,0x7F,0x00,0x00,0x00,0x00,0x00]), 0x1234) := by decide
theorem test_sdobBulEndS_answers :
    after 0x1234 (.sdobBulEndS 0x1 0xead3)
      = some (.ok (.payload #v[0xC5,0xD3,0xEA,0x00,0x00,0x00,0x00,0x00]), 0x1234) := by decide
theorem test_sdobBulEndC_answers :
    after 0x1234 (.sdobBulEndC)
      = some (.ok (.payload #v[0xA1,0x00,0x00,0x00,0x00,0x00,0x00,0x00]), 0x1234) := by decide
theorem test_sdopAbort_answers :
    after 0x1234 (.sdopAbort 0x8 #v[0x80,0x18,0x10,0x01,0x00,0x00,0x04,0x05])
      = some (.ok (.abort 0x1018 1 0x05040000), 0x1234) := by decide
theorem test_sdopAbort_raises :
    after 0x1234 (.sdopAbort 0x4 #v[0x80,0x18,0x10,0x01,0x00,0x00,0x00,0x00])
      = some (.raised .malformedSdo, 0x1234) := by decide
theorem test_sdopSubblk_answers :
    after 0x1234 (.sdopSubblk 0x8 #v[0x83,0x0F,0x10,0x11,0x12,0x13,0x14,0x00])
      = some (.ok (.subblk true 3 #v[0x0F,0x10,0x11,0x12,0x13,0x14,0x00]), 0x1234) := by decide
theorem test_sdopSubblk_raises :
    after 0x1234 (.sdopSubblk 0x7 #v[0x01,0x01,0x02,0x03,0x04,0x05,0x06,0x00])
      = some (.raised .malformedSdo, 0x1234) := by decide
theorem test_sdopDlInitC_answers :
    after 0x1234 (.sdopDlInitC 0x8 #v[0x2B,0x18,0x10,0x01,0x01,0x02,0xEE,0xEE])
      = some (.ok (.initData .dlInitC ⟨0x1018,1,true,true,2,2,#v[0x01,0x02,0x00,0x00],0⟩), 0x1234) := by decide
theorem test_sdopDlInitC_raises :
    after 0x1234 (.sdopDlInitC 0x8 #v[0x40,0x18,0x10,0x01,0x00,0x00,0x00,0x00])
      = some (.raised .malformedSdo, 0x1234) := by decide
theorem test_sdopDlInitS_answers :
    after 0x1234 (.sdopDlInitS 0x8 #v[0x7F,0x18,0x10,0x01,0xFF,0xFF,0xFF,0xFF])
      = some (.ok (.initPlain .dlInitS 0x1018 1), 0x1234) := by decide
theorem test_sdopDlInitS_raises :
    after 0x1234 (.sdopDlInitS 0x8 #v[0x20,0x00,0x00,0x00,0x00,0x00,0x00,0x00])
      = some (.raised .malformedSdo, 0x1234) := by decide
theorem test_sdopDlSegC_answers :
    after 0x1234 (.sdopDlSegC 0x8 #v[0x0F,0x01,0x02,0x03,0x04,0x05,0x06,0x07])
      = some (.ok (.segData .dlSegC ⟨false,7,true,0,#v[0x00,0x00,0x00,0x00,0x00,0x00,0x00]⟩), 0x1234) := by decide
theorem test_sdopDlSegS_answers :
    after 0x1234 (.sdopDlSegS 0x8 #v[0x3F,0xFF,0xFF,0xFF,0xFF,0xFF,0xFF,0xFF])
      = some (.ok (.segPlain .dlSegS true), 0x1234) := by decide
theorem test_sdopDlSegS_raises :
    after 0x1234 (.sdopDlSegS 0x8 #v[0x60,0x18,0x10,0x01,0x00,0x00,0x00,0x00])
      = some (.raised .malformedSdo, 0x1234) := by decide
theorem test_sdopUlInitC_answers :
    after 0x1234 (.sdopUlInitC 0x8 #v[0x40,0x00,0x20,0x03,0x00,0x00,0x00,0x00])
      = some (.ok (.initPlain .ulInitC 0x2000 3), 0x1234) := by decide
theorem test_sdopUlInitS_answers :
    after 0x1234 (.sdopUlInitS 0x8 #v[0x4F,0x18,0x10,0x01,0x2A,0xEE,0xEE,0xEE])
      = some (.ok (.initData .ulInitS ⟨0x1018,1,true,true,3,1,#v[0x2A,0x00,0x00,0x00],0⟩), 0x1234) := by decide
theorem test_sdopUlInitS_raises :
    after 0x1234 (.sdopUlInitS 0x8 #v[0x60,0x18,0x10,0x01,0x00,0x00,0x00,0x00])
      = some (.raised .malformedSdo, 0x1234) := by decide
theorem test_sdopUlSegC_answers :
    after 0x1234 (.sdopUlSegC 0x8 #v[0x70,0x00,0x00,0x00,0x00,0x00,0x00,0x00])
      = some (.ok (.segPlain .ulSegC true), 0x1234) := by decide
theorem test_sdopUlSegS_answers :
    after 0x1234 (.sdopUlSegS 0x8 #v[0x10,0x01,0x02,0x03,0x04,0x05,0x06,0x07])
      = some (.ok (.segData .ulSegS ⟨true,0,false,7,#v[0x01,0x02,0x03,0x04,0x05,0x06,0x07]⟩), 0x1234) := by decide
theorem test_sdopUlSegS_raises :
    after 0x1234 (.sdopUlSegS 0x3 #v[0x00,0x01,0x02,0x00,0x00,0x00,0x00,0x00])
      = some (.raised .malformedSdo, 0x1234) := by decide
theorem test_sdopBdlInitC_answers :
    after 0x1234 (.sdopBdlInitC 0x8 #v[0xC6,0x00,0x20,0x00,0x14,0x00,0x00,0x00])
      = some (.ok (.blkInitSize .bdlInitC 0x2000 0 true true 20), 0x1234) := by decide
theorem test_sdopBdlInitC_raises :
    after 0x1234 (.sdopBdlInitC 0x8 #v[0xA4,0x00,0x20,0x00,0x7F,0x00,0x00,0x00])
      = some (.raised .malformedSdo, 0x1234) := by decide
theorem test_sdopBdlInitS_answers :
    after 0x1234 (.sdopBdlInitS 0x8 #v[0xA4,0x00,0x20,0x00,0x7F,0x00,0x00,0x00])
      = some (.ok (.blkInitWindow .bdlInitS 0x2000 0 true 127), 0x1234) := by decide
theorem test_sdopBdlInitS_raises :
    after 0x1234 (.sdopBdlInitS 0x8 #v[0xA2,0x03,0x7F,0x00,0x00,0x00,0x00,0x00])
      = some (.raised .malformedSdo, 0x1234) := by decide
theorem test_sdopBdlAckS_answers :
    after 0x1234 (.sdopBdlAckS 0x8 #v[0xBE,0x02,0x10,0xFF,0xFF,0xFF,0xFF,0xFF])
      = some (.ok (.blkAck .bdlAckS 2 16), 0x1234) := by decide
theorem test_sdopBdlAckS_raises :
    after 0x1234 (.sdopBdlAckS 0x8 #v[0xA3,0x03,0x7F,0x00,0x00,0x00,0x00,0x00])
      = some (.raised .malformedSdo, 0x1234) := by decide
theorem test_sdopBdlEndC_answers :
    after 0x1234 (.sdopBdlEndC 0x8 #v[0xC5,0xD3,0xEA,0x00,0x00,0x00,0x00,0x00])
      = some (.ok (.blkEnd .bdlEndC 1 0xEAD3), 0x1234) := by decide
theorem test_sdopBdlEndC_raises :
    after 0x1234 (.sdopBdlEndC 0x8 #v[0xC7,0x00,0x00,0x00,0x00,0x00,0x00,0x00])
      = some (.raised .malformedSdo, 0x1234) := by decide
theorem test_sdopBdlEndS_answers :
    after 0x1234 (.sdopBdlEndS 0x8 #v[0xBD,0xFF,0xFF,0xFF,0xFF,0xFF,0xFF,0xFF])
      = some (.ok (.kindOnly .bdlEndS), 0x1234) := by decide
theorem test_sdopBdlEndS_raises :
    after 0x1234 (.sdopBdlEndS 0x8 #v[0xA2,0x03,0x7F,0x00,0x00,0x00,0x00,0x00])
      = some (.raised .malformedSdo, 0x1234) := by decide
theorem test_sdopBulInitC_answers :
    after 0x1234 (.sdopBulInitC 0x8 #v[0xA4,0x00,0x20,0x00,0x7F,0x55,0x00,0x00])
      = some (.ok (.blkInitWindow .bulInitC 0x2000 0 true 127), 0x1234) := by decide
theorem test_sdopBulInitC_raises :
    after 0x1234 (.sdopBulInitC 0x8 #v[0xA3,0x00,0x00,0x00,0x00,0x00,0x00,0x00])
      = some (.raised .malformedSdo, 0x1234) := by decide
theorem test_sdopBulInitS_answers :
    after 0x1234 (.sdopBulInitS 0x8 #v[0xC6,0x00,0x20,0x00,0x14,0x00,0x00,0x00])
      = some (.ok (.blkInitSize .bulInitS 0x2000 0 true true 20), 0x1234) := by decide
theorem test_sdopBulInitS_raises :
    after 0x1234 (.sdopBulInitS 0x8 #v[0xC5,0xD3,0xEA,0x00,0x00,0x00,0x00,0x00])
      = some (.raised .malformedSdo, 0x1234) := by decide
theorem test_sdopBulStartC_answers :
    after 0x1234 (.sdopBulStartC 0x8 #v[0xA3,0x00,0x00,0x00,0x00,0x00,0x00,0x00])
      = some (.ok (.kindOnly .bulStartC), 0x1234) := by decide
theorem test_sdopBulStartC_raises :
    after 0x1234 (.sdopBulStartC 0x8 #v[0xA2,0x03,0x7F,0x00,0x00,0x00,0x00,0x00])
      = some (.raised .malformedSdo, 0x1234) := by decide
theorem test_sdopBulAckC_answers :
    after 0x1234 (.sdopBulAckC 0x8 #v[0xA2,0x03,0x7F,0x00,0x00,0x00,0x00,0x00])
      = some (.ok (.blkAck .bulAckC 3 127), 0x1234) := by decide
theorem test_sdopBulAckC_raises :
    after 0x1234 (.sdopBulAckC 0x8 #v[0xA3,0x00,0x00,0x00,0x00,0x00,0x00,0x00])
      = some (.raised .malformedSdo, 0x1234) := by decide
theorem test_sdopBulEndS_answers :
    after 0x1234 (.sdopBulEndS 0x8 #v[0xC5,0xD3,0xEA,0x00,0x00,0x00,0x00,0x00])
      = some (.ok (.blkEnd .bulEndS 1 0xEAD3), 0x1234) := by decide
theorem test_sdopBulEndS_raises :
    after 0x1234 (.sdopBulEndS 0x8 #v[0xC6,0x00,0x20,0x00,0x14,0x00,0x00,0x00])
      = some (.raised .malformedSdo, 0x1234) := by decide
theorem test_sdopBulEndC_answers :
    after 0x1234 (.sdopBulEndC 0x8 #v[0xA1,0x00,0x00,0x00,0x00,0x00,0x00,0x00])
      = some (.ok (.kindOnly .bulEndC), 0x1234) := by decide
theorem test_sdopBulEndC_raises :
    after 0x1234 (.sdopBulEndC 0x8 #v[0xA0,0x00,0x20,0x00,0x7F,0x00,0x00,0x00])
      = some (.raised .malformedSdo, 0x1234) := by decide
theorem test_crcClr_answers :
    after 0x31C3 (.crcClr)
      = some (.ok (.nothing), 0x0000) := by decide
theorem test_crcUpd_answers :
    after 0x0000 (.crcUpd 0x8 #v[0x01,0x02,0x03,0x04,0x05,0x06,0x07,0x08])
      = some (.ok (.nothing), 0x76AC) := by decide +kernel
theorem test_crcUpd_raises :
    after 0x26B3 (.crcUpd 0xf #v[0x00,0x00,0x00,0x00,0x00,0x00,0x00,0x00])
      = some (.raised .badOperand, 0x26B3) := by decide
theorem test_crcRd_answers :
    after 0xEAD3 (.crcRd)
      = some (.ok (.crc 0xEAD3), 0xEAD3) := by decide
theorem test_crcChk_answers :
    after 0xEAD3 (.crcChk 0xead3)
      = some (.ok (.crcMatch true), 0xEAD3) := by decide
theorem test_illegal_selector : (nextState (step (issuing 0x26B3 (.op 0x60 {})))).map State.crcacc = some 0x26B3 ∧
    responseOf (step (issuing 0x26B3 (.op 0x13 {}))) = some (.raised .illegalOp) := by decide
theorem test_reset_event : step { holding 0x26B3 with inputs := [.reset] } = .next State.reset := by rfl

/-! ### Wire items: the vectors of the parsers, byte for byte -/

theorem test_wireSdoAbort_answers :
    after 0x1234 (.wireSdoAbort #v[0x80,0x18,0x10,0x01,0x00,0x00,0x04,0x05])
      = some (.ok (.abort 0x1018 1 0x05040000), 0x1234) := by decide
theorem test_wireSdoSubblk_answers :
    after 0x1234 (.wireSdoSubblk #v[0x83,0x0F,0x10,0x11,0x12,0x13,0x14,0x00])
      = some (.ok (.subblk true 3 #v[0x0F,0x10,0x11,0x12,0x13,0x14,0x00]), 0x1234) := by decide
theorem test_wireSdoDlInitC_answers :
    after 0x1234 (.wireSdoDlInitC #v[0x2B,0x18,0x10,0x01,0x01,0x02,0xEE,0xEE])
      = some (.ok (.initData .dlInitC ⟨0x1018,1,true,true,2,2,#v[0x01,0x02,0x00,0x00],0⟩), 0x1234) := by decide
theorem test_wireSdoDlInitS_answers :
    after 0x1234 (.wireSdoDlInitS #v[0x7F,0x18,0x10,0x01,0xFF,0xFF,0xFF,0xFF])
      = some (.ok (.initPlain .dlInitS 0x1018 1), 0x1234) := by decide
theorem test_wireSdoDlSegC_answers :
    after 0x1234 (.wireSdoDlSegC #v[0x0F,0x01,0x02,0x03,0x04,0x05,0x06,0x07])
      = some (.ok (.segData .dlSegC ⟨false,7,true,0,#v[0x00,0x00,0x00,0x00,0x00,0x00,0x00]⟩), 0x1234) := by decide
theorem test_wireSdoDlSegS_answers :
    after 0x1234 (.wireSdoDlSegS #v[0x3F,0xFF,0xFF,0xFF,0xFF,0xFF,0xFF,0xFF])
      = some (.ok (.segPlain .dlSegS true), 0x1234) := by decide
theorem test_wireSdoUlInitC_answers :
    after 0x1234 (.wireSdoUlInitC #v[0x40,0x00,0x20,0x03,0x00,0x00,0x00,0x00])
      = some (.ok (.initPlain .ulInitC 0x2000 3), 0x1234) := by decide
theorem test_wireSdoUlInitS_answers :
    after 0x1234 (.wireSdoUlInitS #v[0x4F,0x18,0x10,0x01,0x2A,0xEE,0xEE,0xEE])
      = some (.ok (.initData .ulInitS ⟨0x1018,1,true,true,3,1,#v[0x2A,0x00,0x00,0x00],0⟩), 0x1234) := by decide
theorem test_wireSdoUlSegC_answers :
    after 0x1234 (.wireSdoUlSegC #v[0x70,0x00,0x00,0x00,0x00,0x00,0x00,0x00])
      = some (.ok (.segPlain .ulSegC true), 0x1234) := by decide
theorem test_wireSdoUlSegS_answers :
    after 0x1234 (.wireSdoUlSegS #v[0x10,0x01,0x02,0x03,0x04,0x05,0x06,0x07])
      = some (.ok (.segData .ulSegS ⟨true,0,false,7,#v[0x01,0x02,0x03,0x04,0x05,0x06,0x07]⟩), 0x1234) := by decide
theorem test_wireSdoBdlInitC_answers :
    after 0x1234 (.wireSdoBdlInitC #v[0xC6,0x00,0x20,0x00,0x14,0x00,0x00,0x00])
      = some (.ok (.blkInitSize .bdlInitC 0x2000 0 true true 20), 0x1234) := by decide
theorem test_wireSdoBdlInitS_answers :
    after 0x1234 (.wireSdoBdlInitS #v[0xA4,0x00,0x20,0x00,0x7F,0x00,0x00,0x00])
      = some (.ok (.blkInitWindow .bdlInitS 0x2000 0 true 127), 0x1234) := by decide
theorem test_wireSdoBdlAckS_answers :
    after 0x1234 (.wireSdoBdlAckS #v[0xBE,0x02,0x10,0xFF,0xFF,0xFF,0xFF,0xFF])
      = some (.ok (.blkAck .bdlAckS 2 16), 0x1234) := by decide
theorem test_wireSdoBdlEndC_answers :
    after 0x1234 (.wireSdoBdlEndC #v[0xC5,0xD3,0xEA,0x00,0x00,0x00,0x00,0x00])
      = some (.ok (.blkEnd .bdlEndC 1 0xEAD3), 0x1234) := by decide
theorem test_wireSdoBdlEndS_answers :
    after 0x1234 (.wireSdoBdlEndS #v[0xBD,0xFF,0xFF,0xFF,0xFF,0xFF,0xFF,0xFF])
      = some (.ok (.kindOnly .bdlEndS), 0x1234) := by decide
theorem test_wireSdoBulInitC_answers :
    after 0x1234 (.wireSdoBulInitC #v[0xA4,0x00,0x20,0x00,0x7F,0x55,0x00,0x00])
      = some (.ok (.blkInitWindow .bulInitC 0x2000 0 true 127), 0x1234) := by decide
theorem test_wireSdoBulInitS_answers :
    after 0x1234 (.wireSdoBulInitS #v[0xC6,0x00,0x20,0x00,0x14,0x00,0x00,0x00])
      = some (.ok (.blkInitSize .bulInitS 0x2000 0 true true 20), 0x1234) := by decide
theorem test_wireSdoBulStartC_answers :
    after 0x1234 (.wireSdoBulStartC #v[0xA3,0x00,0x00,0x00,0x00,0x00,0x00,0x00])
      = some (.ok (.kindOnly .bulStartC), 0x1234) := by decide
theorem test_wireSdoBulAckC_answers :
    after 0x1234 (.wireSdoBulAckC #v[0xA2,0x03,0x7F,0x00,0x00,0x00,0x00,0x00])
      = some (.ok (.blkAck .bulAckC 3 127), 0x1234) := by decide
theorem test_wireSdoBulEndS_answers :
    after 0x1234 (.wireSdoBulEndS #v[0xC5,0xD3,0xEA,0x00,0x00,0x00,0x00,0x00])
      = some (.ok (.blkEnd .bulEndS 1 0xEAD3), 0x1234) := by decide
theorem test_wireSdoBulEndC_answers :
    after 0x1234 (.wireSdoBulEndC #v[0xA1,0x00,0x00,0x00,0x00,0x00,0x00,0x00])
      = some (.ok (.kindOnly .bulEndC), 0x1234) := by decide
theorem test_wireRecW_answers :
    after 0x1234 (.wireRecW 0x92345678) = some (.ok (.recordFields 0x12345678 true false false), 0x1234) := by decide
theorem test_wireCob_answers : after 0x1234 (.wireCob 0x605) = some (.ok (.cobFields 12 5), 0x1234) := by decide
theorem test_crcTable_ends : crcTable.length = 256 ∧ crcTable.getD 1 0 = 0x1021 ∧ crcTable.getD 255 0 = 0x1EF0 := by decide +kernel

/-! ### Witnesses: concrete values that meet the hypotheses of an obligation, each clause at a boundary of its range -/

/-- A frame of eight bytes, and one of three whose other lanes hold something. -/
def fullFrame : CanFrame := ⟨0x605, false, false, false, 8, #v[0x2B, 0x18, 0x10, 1, 1, 2, 3, 4]⟩
def shortFrame (pad : Byte) : CanFrame := ⟨0x12345678, true, false, true, 3, #v[0xAA, 0xBB, 0xCC, pad, pad, 0, 0, pad]⟩

/-- A record of a frame of `len` bytes with a reserved byte and its padding as given. -/
def recordWith (len reserved pad : Byte) : Record := #v[0x78, 0x56, 0x34, 0x92, len, reserved, 0, 0, 1, 2, 3, 4, 5, 6, 7, pad]

theorem witness_ResetLeavesAccumulatorAtCrcInit : ∃ t, exec .crcClr State.reset = .next t := ⟨_, rfl⟩
theorem witness_ResetEventClearsAccumulator :
    ({ holding 0x26B3 with inputs := [.reset, .reset] } : State).inputs = .reset :: [.reset] := rfl
theorem witness_IdleStepKeepsTheState : (holding 0x26B3).inputs = [] := rfl
theorem witness_StepRunsTheDecodedInstruction :
    (issuing 0x26B3 (.op 0x82 {})).inputs = .issue (.op 0x82 {}) :: [] ∧
    decode (issuing 0x26B3 (.op 0x82 {})).csMap (.op 0x82 {}) = .ok .crcRd := ⟨rfl, rfl⟩
theorem witness_OtherSelectorsCompleteWithIllegalOp :
    (0x12 : BitVec 8).toNat ∉ legalOps ∧ (0x55 : BitVec 8).toNat ∉ legalOps ∧ (0x84 : BitVec 8).toNat ∉ legalOps ∧
    (issuing 1 (.op 0x84 {})).inputs = .issue (.op 0x84 {}) :: [] := by decide
theorem witness_EncodedInstructionDecodesToItself :
    CsMap.default.Wf ∧ (Instr.wireSdoBulInitS (cmd 0xC6)).wellFormed CsMap.default = true ∧
    (Instr.sdobSubblk true 0 15 (zeroLanes 7)).wellFormed CsMap.default = true := by decide
theorem witness_DecodedInstructionIsWellFormed :
    CsMap.default.Wf ∧ decode CsMap.default (.subblock (cmd 0x80)) = .ok (.wireSdoAbort (cmd 0x80)) := by decide
theorem witness_EveryRequestGetsAResponse :
    (issuing 1 (.op 0xFF {})).inputs = .issue (.op 0xFF {}) :: [] := rfl

/-- A state with a canonical response that answers next with a canonical response. -/
def answered : State := { issuing 7 (encode (.sdopDlSegC 8 (cmd 0x0F))) with response := some (.ok (.segPlain .dlSegS true)) }

theorem witness_EveryStepKeepsTheInvariant : Inv answered ∧ ∃ t, step answered = .next t :=
  ⟨⟨by decide, fun _ h => by cases h; exact .inl rfl⟩, _, rfl⟩
theorem witness_OtherOperationsKeepCrcacc : ¬WritesCrcacc .crcRd ∧ ∃ t, exec .crcRd (holding 5) = .next t :=
  ⟨(by rintro (h | ⟨_, _, h⟩) <;> cases h), _, rfl⟩
theorem witness_FailureChangesNothing :
    ∃ t, exec (.crcUpd 9 (zeroLanes 8)) (holding 5) = .next t ∧ t.response = some (.raised .badOperand) := ⟨_, rfl, rfl⟩
theorem witness_OtherOperationsIgnoreCrcacc :
    ¬UsesCrcacc (.cobCompose 12 5) ∧ (holding 5).csMap = (holding 6).csMap :=
  ⟨(by rintro ((h | ⟨_, _, h⟩) | h | ⟨_, h⟩) <;> cases h), rfl⟩
theorem witness_RepeatedOperationIsIdempotent :
    (∀ len dat, Instr.crcClr ≠ .crcUpd len dat) ∧ ∃ t, exec .crcClr (holding 5) = .next t :=
  ⟨fun _ _ h => (by cases h), _, rfl⟩
theorem witness_OperationRaisesOnlyItsOwnStatus :
    responseOf (exec (.canfDec 15 (zeroLanes 16)) State.reset) = some (.raised .malformedFrame) := rfl
theorem witness_CanfEncBuildsTheRecord : 8 < (9 : BitVec 4).toNat ∧ (8 : BitVec 4).toNat ≤ 8 := by decide
theorem witness_CanfDecReadsTheFrame :
    (15 : BitVec 8) ≠ 16 ∧ (recordWith 8 1 0)[5] ≠ 0 ∧ 8 < (recordWith 9 0 0)[4].toNat ∧
    ((16 : BitVec 8) = 16 ∧ (recordWith 8 0 9)[5] = 0 ∧ (recordWith 8 0 9)[6] = 0 ∧ (recordWith 8 0 9)[7] = 0 ∧
      (recordWith 8 0 9)[4].toNat ≤ 8) := by decide
theorem witness_FrameRoundTrip : ValidFrame fullFrame := by decide
theorem witness_ReencodingCleansThePadding :
    ∃ f, responseOf (exec (.canfDec 16 (recordWith 7 0 0xEE)) State.reset) = some (.ok (.frame f)) := ⟨_, rfl⟩
theorem witness_CanfEncIsInjective :
    ValidFrame (shortFrame 0) ∧ ValidFrame (shortFrame 0xEE) ∧
    responseOf (exec (encodeFrameOp (shortFrame 0)) State.reset) =
      responseOf (exec (encodeFrameOp (shortFrame 0xEE)) State.reset) ∧
    ∃ r, responseOf (exec (encodeFrameOp (shortFrame 0xEE)) State.reset) = some (.ok (.record r)) :=
  ⟨by decide, by decide, by decide, _, rfl⟩
theorem witness_CobClassifyReportsTheClass :
    2048 ≤ (2048 : BitVec 29).toNat ∧ (2047 : BitVec 29).toNat < 2048 := by decide
theorem witness_FunctionCodeClasses :
    ((10, 3, 4, true) : BitVec 4 × BitVec 4 × BitVec 3 × Bool) ∈ [((0, 0, 0, false) : BitVec 4 × BitVec 4 × BitVec 3 × Bool),
      (1, 1, 0, false), (2, 2, 0, false), (3, 3, 1, false), (4, 3, 1, true), (5, 3, 2, false), (6, 3, 2, true),
      (7, 3, 3, false), (8, 3, 3, true), (9, 3, 4, false), (10, 3, 4, true), (11, 4, 0, false), (12, 5, 0, false),
      (13, 7, 0, false), (14, 6, 0, false), (15, 7, 0, false)] := by decide
theorem witness_SdoIdentFindsTheKind :
    State.reset.csMap.Wf ∧ (7 : BitVec 4) ≠ 8 ∧
    ∀ k : Kind, k ≠ .subblk → sentBy k .client = true → matchesKind State.reset.csMap k (cmd 0xC3)[0] = false :=
  ⟨by decide, by decide, fun k => by cases k <;> decide⟩
theorem witness_SdoIdentDefaultTable :
    (holding 5).csMap = CsMap.default ∧ (cmd 0x1F)[0].toNat = 0x1F ∧ (cmd 0x20)[0].toNat = 0x20 ∧
    (cmd 0x9F)[0].toNat = 0x9F ∧ (cmd 0xDF)[0].toNat = 0xDF ∧ (cmd 0xFF)[0].toNat = 0xFF := by decide
theorem witness_SdoIdentAgreesWithTheParsers :
    State.reset.csMap.Wf ∧ Kind.bdlEndC ≠ .abort ∧ Kind.bdlEndC ≠ .subblk ∧ sentBy .bdlEndC .client = true ∧
    responseOf (exec (.sdoIdent .client 8 (cmd 0xC1)) State.reset) = some (.ok (.kindOnly .bdlEndC)) := by decide
theorem witness_AbortIsSeenInEveryContext :
    State.reset.csMap.Wf ∧ (Kind.ulSegS ≠ .subblk ∧ (cmd 0x9F)[0].toNat / 32 = 4) ∧ (cmd 0x80)[0] = 0x80 := by decide
theorem witness_ShortPayloadIsRefused : (7 : BitVec 4) ≠ 8 ∧ (9 : BitVec 4) ≠ 8 := by decide
theorem witness_InitiateWithDataIsBuilt :
    (true = true ∧ true = true ∧ ((0 : BitVec 4).toNat = 0 ∨ 4 < (0 : BitVec 4).toNat)) ∧
    (true = true ∧ true = true ∧ ((5 : BitVec 4).toNat = 0 ∨ 4 < (5 : BitVec 4).toNat)) ∧
    ¬(true = true ∧ true = true ∧ ((4 : BitVec 4).toNat = 0 ∨ 4 < (4 : BitVec 4).toNat)) ∧
    ¬(true = true ∧ false = true ∧ ((15 : BitVec 4).toNat = 0 ∨ 4 < (15 : BitVec 4).toNat)) := by decide
theorem witness_SegmentWithDataIsBuilt : 7 < (8 : BitVec 4).toNat ∧ (7 : BitVec 4).toNat ≤ 7 := by decide
theorem witness_SubblockIsBuilt :
    ((0 : BitVec 7) = 0 ∨ 7 < (7 : BitVec 4).toNat) ∧ ((127 : BitVec 7) = 0 ∨ 7 < (8 : BitVec 4).toNat) ∧
    ((127 : BitVec 7) ≠ 0 ∧ (7 : BitVec 4).toNat ≤ 7) := by decide
theorem witness_SubblockIsParsed :
    ((7 : BitVec 4) ≠ 8 ∨ (cmd 1)[0] = 0) ∧ ((8 : BitVec 4) ≠ 8 ∨ (cmd 0)[0] = 0) ∧
    ((8 : BitVec 4) = 8 ∧ (cmd 0x80)[0] = 0x80) ∧ ((8 : BitVec 4) = 8 ∧ (cmd 0x81)[0].toNat % 128 ≠ 0) := by decide
theorem witness_BlockInitiatesAreParsed : (holding 9).csMap.Wf := by decide
theorem witness_OtherBlockMessagesAreParsed : (holding 9).csMap.Wf := by decide
theorem witness_TransferPayloadsRoundTrip :
    State.reset.csMap.Wf ∧ (holding 9).csMap = State.reset.csMap ∧
    (∃ p, responseOf (exec (.sdobAbort 0x1018 1 0x05040000) State.reset) = some (.ok (.payload p))) ∧
    (∃ p, responseOf (exec (.sdobDlInitC 0x1018 1 true true 4 #v[1, 2, 3, 4] 0) State.reset) = some (.ok (.payload p))) ∧
    (∃ p, responseOf (exec (.sdobUlInitS 0x1018 1 false true 0 #v[1, 2, 3, 4] 10) State.reset) = some (.ok (.payload p))) ∧
    (∃ p, responseOf (exec (.sdobDlInitS 0x1018 1) State.reset) = some (.ok (.payload p))) ∧
    (∃ p, responseOf (exec (.sdobUlInitC 0x1018 1) State.reset) = some (.ok (.payload p))) ∧
    (∃ p, responseOf (exec (.sdobDlSegC true false 7 #v[1, 2, 3, 4, 5, 6, 7]) State.reset) = some (.ok (.payload p))) ∧
    (∃ p, responseOf (exec (.sdobUlSegS true true 0 #v[1, 2, 3, 4, 5, 6, 7]) State.reset) = some (.ok (.payload p))) ∧
    (∃ p, responseOf (exec (.sdobDlSegS true) State.reset) = some (.ok (.payload p))) ∧
    (∃ p, responseOf (exec (.sdobUlSegC false) State.reset) = some (.ok (.payload p))) :=
  ⟨by decide, rfl, ⟨_, rfl⟩, ⟨_, rfl⟩, ⟨_, rfl⟩, ⟨_, rfl⟩, ⟨_, rfl⟩, ⟨_, rfl⟩, ⟨_, rfl⟩, ⟨_, rfl⟩, ⟨_, rfl⟩⟩
theorem witness_BlockPayloadsRoundTrip :
    State.reset.csMap.Wf ∧ (holding 9).csMap = State.reset.csMap ∧
    (∃ p, responseOf (exec (.sdobSubblk true 127 7 #v[1, 2, 3, 4, 5, 6, 7]) State.reset) = some (.ok (.payload p))) ∧
    (∃ p, responseOf (exec (.sdobBdlInitC 0x2000 3 true true 20) State.reset) = some (.ok (.payload p))) ∧
    (∃ p, responseOf (exec (.sdobBulInitS 0x2000 3 true false 20) State.reset) = some (.ok (.payload p))) ∧
    (∃ p, responseOf (exec (.sdobBdlInitS 0x2000 3 false 127) State.reset) = some (.ok (.payload p))) ∧
    (∃ p, responseOf (exec (.sdobBulInitC 0x2000 3 true 127) State.reset) = some (.ok (.payload p))) ∧
    (∃ p, responseOf (exec (.sdobBdlAckS 3 127) State.reset) = some (.ok (.payload p))) ∧
    (∃ p, responseOf (exec (.sdobBulAckC 127 0) State.reset) = some (.ok (.payload p))) ∧
    (∃ p, responseOf (exec (.sdobBdlEndC 7 0x26B3) State.reset) = some (.ok (.payload p))) ∧
    (∃ p, responseOf (exec (.sdobBulEndS 1 0xFFFF) State.reset) = some (.ok (.payload p))) ∧
    (∃ p, responseOf (exec .sdobBdlEndS State.reset) = some (.ok (.payload p))) ∧
    (∃ p, responseOf (exec .sdobBulEndC State.reset) = some (.ok (.payload p))) ∧
    (∃ p, responseOf (exec .sdobBulStartC State.reset) = some (.ok (.payload p))) :=
  ⟨by decide, rfl, ⟨_, rfl⟩, ⟨_, rfl⟩, ⟨_, rfl⟩, ⟨_, rfl⟩, ⟨_, rfl⟩, ⟨_, rfl⟩, ⟨_, rfl⟩, ⟨_, rfl⟩, ⟨_, rfl⟩, ⟨_, rfl⟩,
    ⟨_, rfl⟩, ⟨_, rfl⟩⟩
theorem witness_SentMessagePassesTheFilter :
    ∃ p res, responseOf (exec (.sdobDlInitS 0x1018 1) State.reset) = some (.ok (.payload p)) ∧
      responseOf (exec (parseOp 8 p .dlInitS) State.reset) = some (.ok res) ∧ resultKind res ≠ some .abort :=
  ⟨_, _, rfl, rfl, by decide⟩
theorem witness_WrongContextIsNotDetected : (holding 9).csMap = CsMap.default := rfl
theorem witness_CrcClrAndUpdWriteTheAccumulator : 8 < (9 : BitVec 4).toNat ∧ (8 : BitVec 4).toNat ≤ 8 := by decide

/-- Two groups of bytes, of eight and of one. -/
def twoGroups : List (BitVec 4 × Lanes 8) := [(8, #v[1, 2, 3, 4, 5, 6, 7, 8]), (1, #v[9, 0xEE, 0, 0, 0, 0, 0, 0])]

theorem witness_GroupingOfUpdatesDoesNotMatter :
    (∀ g ∈ twoGroups, g.1.toNat ≤ 8) ∧
    ({ holding 5 with inputs := hostProgram (.crcClr :: twoGroups.map fun g => .crcUpd g.1 g.2) } : State).inputs =
      hostProgram (.crcClr :: twoGroups.map fun g => .crcUpd g.1 g.2) := ⟨by decide, rfl⟩
theorem witness_CrcCalcReadsTheChecksum :
    ({ holding 5 with inputs := hostProgram (crcCalc [1, 2, 3, 4, 5, 6, 7, 8, 9]) } : State).inputs =
      hostProgram (crcCalc [1, 2, 3, 4, 5, 6, 7, 8, 9]) ∧ (crcCalc [1, 2, 3, 4, 5, 6, 7, 8, 9]).length = 4 := ⟨rfl, rfl⟩
theorem witness_WireItemsDeliverTheirFields :
    (holding 5).csMap.Wf ∧ (Instr.wireSdoBulEndC (cmd 0xBD)).wireKind = some (.bulEndC, cmd 0xBD) ∧
    (Instr.wireSdoBulEndC (cmd 0xBD)).wellFormed (holding 5).csMap = true ∧
    (Instr.wireSdoSubblk (cmd 0x81)).wireKind = some (.subblk, cmd 0x81) ∧
    (Instr.wireSdoSubblk (cmd 0x81)).wellFormed (holding 5).csMap = true := by decide

end Sys2Proof.Tests
end

section
/-! PROOFS. The invariant of the block (00_scope.md R11, 30_encoding.md R80, R81, R84, 41_cobid.md R125): each bundle an
operation builds is canonical, so each instruction answers canonically and keeps the map, so each step keeps `Inv`. -/

namespace Sys2Proof.Machine

/-! ### Canonical answers -/

/-- A response that delivers nothing but a canonical bundle. -/
def CanonicalResponse (r : Response) : Prop := ∀ b, r = .ok b → Canonical b

/-- An outcome that delivers a canonical response and leaves the map `m` in place. -/
def AnswersCanonically (o : StepResult) (m : CsMap) : Prop :=
  ∃ (t : State) (r : Response), o = .next (t.withResponse r) ∧ t.csMap = m ∧ CanonicalResponse r

@[simp] theorem canonicalResponse_ok (b : Results) : CanonicalResponse (.ok b) ↔ Canonical b := by
  simp [CanonicalResponse]

@[simp] theorem canonicalResponse_raised (f : Failure) : CanonicalResponse (.raised f) := by
  simp [CanonicalResponse]

theorem deliver_answersCanonically {r : Response} {s : State} (h : CanonicalResponse r) :
    AnswersCanonically (deliver r s) s.csMap :=
  ⟨s, r, rfl, rfl, h⟩

theorem complete_answersCanonically {b : Results} {s : State} (h : Canonical b) :
    AnswersCanonically (complete b s) s.csMap :=
  deliver_answersCanonically ((canonicalResponse_ok b).2 h)

theorem raise_answersCanonically (f : Failure) (s : State) : AnswersCanonically (raise f s) s.csMap :=
  deliver_answersCanonically (canonicalResponse_raised f)

/-- A legal map and a canonical answer make the invariant of the next state. -/
theorem inv_of_answersCanonically {o : StepResult} {m : CsMap} {t : State} (hm : m.Wf)
    (ho : AnswersCanonically o m) (ht : o = .next t) : Inv t := by
  obtain ⟨u, r, rfl, rfl, hr⟩ := ho
  cases ht
  exact ⟨hm, fun b hb => hr b (Option.some.inj hb)⟩

/-! ### FRAME: the record and the frame (30_encoding.md R80, R81) -/

/-- Lanes read beyond the count are 0. -/
theorem lanesFrom_zeroFrom {n : Nat} (src : Lanes n) (off m cnt : Nat) (h : off + m ≤ n) :
    ZeroFrom (lanesFrom src off m cnt h) cnt := fun i hi => by
  rw [Fin.getElem_fin, lanesFrom_getElem, if_neg (by omega)]

theorem canonical_encodeRecord (arbId : BitVec 29) (ext rtr err : Bool) (dlc : BitVec 4) (dat : Lanes 8)
    (h : dlc.toNat ≤ 8) : Canonical (.record (encodeRecord arbId ext rtr err dlc dat)) := by
  have hlen : (encodeRecord arbId ext rtr err dlc dat)[4].toNat = dlc.toNat := by
    rw [encodeRecord, putLanes_below _ _ _ _ _ _ (by omega), Vector.getElem_set_self, BitVec.toNat_setWidth]
    omega
  have hrest : ∀ i, (hi : i < 16) → 5 ≤ i → (i < 8 ∨ dlc.toNat ≤ i - 8) →
      (encodeRecord arbId ext rtr err dlc dat)[i] = 0 := by
    intro i hi h5 hout
    rw [encodeRecord, putLanes_getElem, dif_neg (by omega), Vector.getElem_set_ne _ _ (by omega),
      put32_other _ _ _ _ _ _ (by omega), zeroLanes_getElem]
  refine ⟨hlen.trans_le h, hrest 5 _ (by omega) (by omega), hrest 6 _ (by omega) (by omega),
    hrest 7 _ (by omega) (by omega), fun i hi => hrest (8 + i.val) _ (by omega) (by omega)⟩

/-- A record that passes the checks of R102 has a length of at most 8. -/
theorem length_le_of_not_malformedRecord (recLen : BitVec 8) (r : Record) (h : ¬malformedRecord recLen r = true) :
    r[4].toNat ≤ 8 := by
  have hlen : ¬Config.maxDlc < r[4].toNat := fun hlt => h (by simp [malformedRecord, hlt])
  exact Nat.not_lt.1 hlen

theorem canonical_decodeRecord (r : Record) (h : r[4].toNat ≤ 8) : Canonical (.frame (decodeRecord r)) := by
  have hlen : (decodeRecord r).dlc.toNat = r[4].toNat := by
    simp only [decodeRecord, BitVec.toNat_setWidth]
    omega
  refine ⟨hlen.trans_le h, ?_⟩
  rw [hlen]
  exact lanesFrom_zeroFrom _ _ _ _ (by decide)

/-! ### COB: the classification (41_cobid.md R125, R126) -/

/-- The PDO fields are set for the PDO class and for no other. -/
theorem pdo_fields_of_classOf (fc4 : BitVec 4) :
    (classOf fc4 = .pdo ↔ pdoNumber fc4 ≠ 0) ∧ (pdoNumber fc4).toNat ≤ 4 ∧
      (pdoNumber fc4 = 0 → pdoReceive fc4 = false) := by
  revert fc4; decide

theorem canonical_classify (arbId : BitVec 29) (ext err : Bool) :
    Canonical (.classification (classify arbId ext err)) := by
  unfold classify
  split
  · exact ⟨rfl, pdo_fields_of_classOf _⟩
  · exact ⟨rfl, rfl, rfl, rfl, rfl⟩

/-! ### SDO: parsed fields (43_sdo_expedited_segmented.md R172 to R178; 44_sdo_block.md) -/

theorem canonical_parseAbort (pay : Payload) : Canonical (parseAbort pay) := trivial

/-- `4 - n` is 1 to 4. -/
theorem initLen_bounds (n : BitVec 2) : 1 ≤ (initLen n).toNat ∧ (initLen n).toNat ≤ 4 := by
  revert n; decide

theorem initN_setWidth_le (n : BitVec 2) : (n.setWidth 3).toNat ≤ 3 := by
  revert n; decide

/-- `7 - n` and `n` make up the seven lanes of a segment. -/
theorem segLen_add (n : BitVec 3) : (segLen n).toNat + n.toNat = 7 := by
  revert n; decide

theorem canonical_parseInitData {k : Kind} (pay : Payload) (hk : k = .dlInitC ∨ k = .ulInitS) :
    Canonical (parseInitData k pay) := by
  refine ⟨hk, initN_setWidth_le _, lanesFrom_zeroFrom _ _ _ _ (by decide), ?_⟩
  cases pay[0].getLsbD 1
  case false => simp +contextual
  case true =>
    cases pay[0].getLsbD 0
    case false => simp
    case true => simpa using initLen_bounds (initN pay[0])

theorem canonical_parseInitPlain {k : Kind} (pay : Payload) (hk : k = .dlInitS ∨ k = .ulInitC) :
    Canonical (parseInitPlain k pay) := hk

theorem canonical_parseSegData {k : Kind} (pay : Payload) (hk : k = .dlSegC ∨ k = .ulSegS) :
    Canonical (parseSegData k pay) :=
  ⟨hk, segLen_add _, lanesFrom_zeroFrom _ _ _ _ (by decide)⟩

theorem canonical_parseSegPlain {k : Kind} (pay : Payload) (hk : k = .dlSegS ∨ k = .ulSegC) :
    Canonical (parseSegPlain k pay) := hk

theorem canonical_parseBlkInitSize {k : Kind} (pay : Payload) (hk : k = .bdlInitC ∨ k = .bulInitS) :
    Canonical (parseBlkInitSize k pay) :=
  ⟨hk, fun hs => by rw [hs]; rfl⟩

theorem canonical_parseBlkInitWindow {k : Kind} (pay : Payload) (hk : k = .bdlInitS ∨ k = .bulInitC) :
    Canonical (parseBlkInitWindow k pay) := hk

theorem canonical_parseBlkAck {k : Kind} (pay : Payload) (hk : k = .bdlAckS ∨ k = .bulAckC) :
    Canonical (parseBlkAck k pay) := hk

theorem canonical_parseBlkEnd {k : Kind} (pay : Payload) (hk : k = .bdlEndC ∨ k = .bulEndS) :
    Canonical (parseBlkEnd k pay) := hk

theorem canonical_kindOnly {k : Kind} (hk : k ≠ .subblk) : Canonical (.kindOnly k) := hk

/-! ### SDO: responses of the parsers and builders -/

/-- The shared parser adds only the abort and `MALFORMED_SDO` to the fields of the kind. -/
theorem expect_canonical {m : CsMap} {dir : Sender} {want : BitVec 3} {sub : Option (BitVec 2)} {plen : BitVec 4}
    {pay : Payload} {fields : Results} (h : Canonical fields) :
    CanonicalResponse (expect m dir want sub plen pay fields) := by
  obtain hr | ⟨-, -, -, hr⟩ | ⟨-, -, -, hr⟩ := expect_cases m dir want sub plen pay fields
  · exact hr ▸ canonicalResponse_raised _
  · exact hr ▸ (canonicalResponse_ok _).2 (canonical_parseAbort pay)
  · exact hr ▸ (canonicalResponse_ok _).2 h

theorem expectSubblk_canonical {plen : BitVec 4} {pay : Payload} : CanonicalResponse (expectSubblk plen pay) := by
  obtain hr | ⟨-, -, hr⟩ | ⟨-, -, hseq, hr⟩ := expectSubblk_cases plen pay
  · exact hr ▸ canonicalResponse_raised _
  · exact hr ▸ (canonicalResponse_ok _).2 (canonical_parseAbort pay)
  · exact hr ▸ (canonicalResponse_ok _).2 hseq

/-- A delivered payload carries no fields that could be other than canonical. -/
theorem payload_canonical (pay : Payload) : CanonicalResponse (.ok (.payload pay)) :=
  (canonicalResponse_ok _).2 trivial

theorem buildInitData_canonical {cs : BitVec 3} {index : BitVec 16} {subidx : BitVec 8} {e s : Bool} {len : BitVec 4}
    {d : Lanes 4} {size : BitVec 32} : CanonicalResponse (buildInitData cs index subidx e s len d size) := by
  by_cases h : e = true ∧ s = true ∧ (len.toNat < 1 ∨ 4 < len.toNat)
  · exact buildInitData_bad cs index subidx e s len d size h ▸ canonicalResponse_raised _
  · exact buildInitData_good cs index subidx e s len d size h ▸ payload_canonical _

theorem buildSegData_canonical {cs : BitVec 3} {t c : Bool} {len : BitVec 4} {d : Lanes 7} :
    CanonicalResponse (buildSegData cs t c len d) := by
  obtain h | h := Nat.lt_or_ge 7 len.toNat
  · exact buildSegData_bad cs t c len d h ▸ canonicalResponse_raised _
  · exact buildSegData_good cs t c len d h ▸ payload_canonical _

/-! ### Every instruction -/

theorem execCanfEnc_answersCanonically (arbId : BitVec 29) (ext rtr err : Bool) (dlc : BitVec 4) (dat : Lanes 8)
    (s : State) : AnswersCanonically (execCanfEnc arbId ext rtr err dlc dat s) s.csMap := by
  unfold execCanfEnc
  split
  case isTrue => exact raise_answersCanonically _ s
  case isFalse h =>
    rw [badFrameLen_iff, Nat.not_lt] at h
    exact complete_answersCanonically (canonical_encodeRecord _ _ _ _ _ _ h)

theorem execCanfDec_answersCanonically (recLen : BitVec 8) (r : Record) (s : State) :
    AnswersCanonically (execCanfDec recLen r s) s.csMap := by
  unfold execCanfDec
  split
  case isTrue => exact raise_answersCanonically _ s
  case isFalse h =>
    exact complete_answersCanonically (canonical_decodeRecord r (length_le_of_not_malformedRecord recLen r h))

/-- Under a legal map no envelope is taken for a sub-block. -/
theorem exec_sdoIdent_answersCanonically (dir : Sender) (plen : BitVec 4) (pay : Payload) (s : State)
    (hm : s.csMap.Wf) : AnswersCanonically (exec (.sdoIdent dir plen pay) s) s.csMap := by
  rw [exec_sdoIdent]
  refine deliver_answersCanonically ?_
  split
  · exact canonicalResponse_raised _
  · cases hk : identKind s.csMap dir pay[0] with
    | none => exact canonicalResponse_raised _
    | some k => exact (canonicalResponse_ok _).2 (identKind_sound s.csMap hm k dir pay[0] hk).1

theorem execSdobSubblk_answersCanonically (c : Bool) (seqno : BitVec 7) (len : BitVec 4) (d : Lanes 7) (s : State) :
    AnswersCanonically (execSdobSubblk c seqno len d s) s.csMap := by
  unfold execSdobSubblk
  split
  · exact raise_answersCanonically _ s
  · exact complete_answersCanonically trivial

theorem execWireSdoAbort_answersCanonically (pay : Payload) (s : State) :
    AnswersCanonically (execWireSdoAbort pay s) s.csMap := by
  unfold execWireSdoAbort
  split
  · exact raise_answersCanonically _ s
  · exact complete_answersCanonically (canonical_parseAbort pay)

theorem execSdopAbort_answersCanonically (plen : BitVec 4) (pay : Payload) (s : State) :
    AnswersCanonically (execSdopAbort plen pay s) s.csMap := by
  unfold execSdopAbort
  split
  · exact raise_answersCanonically _ s
  · exact execWireSdoAbort_answersCanonically pay s

theorem execCrcUpd_answersCanonically (len : BitVec 4) (dat : Lanes 8) (s : State) :
    AnswersCanonically (execCrcUpd len dat s) s.csMap := by
  unfold execCrcUpd
  split
  · exact raise_answersCanonically _ s
  · exact complete_answersCanonically (s := s.withCrcacc _) trivial

/-- Every instruction answers canonically and keeps the map; a legal map is needed for `SDO.IDENT` alone. -/
theorem exec_answersCanonically (i : Instr) (s : State) (hm : s.csMap.Wf) :
    AnswersCanonically (exec i s) s.csMap := by
  cases i
  -- FRAME and COB
  case canfEnc => exact execCanfEnc_answersCanonically ..
  case canfDec => exact execCanfDec_answersCanonically ..
  case cobClassify => exact complete_answersCanonically (canonical_classify ..)
  case cobCompose | cobDecompose | wireCob | wireRecW => exact complete_answersCanonically trivial
  -- SDO: recognition and builders
  case sdoIdent => exact exec_sdoIdent_answersCanonically _ _ _ s hm
  case sdobAbort => exact complete_answersCanonically trivial
  case sdobSubblk => exact execSdobSubblk_answersCanonically ..
  case sdobDlInitC | sdobUlInitS => exact deliver_answersCanonically buildInitData_canonical
  case sdobDlSegC | sdobUlSegS => exact deliver_answersCanonically buildSegData_canonical
  case sdobBdlInitC | sdobBulInitS =>
    exact deliver_answersCanonically (buildBlkInitSize_eq .. ▸ payload_canonical _)
  case sdobDlInitS | sdobUlInitC | sdobDlSegS | sdobUlSegC | sdobBdlInitS | sdobBulInitC | sdobBdlAckS | sdobBulAckC
      | sdobBdlEndC | sdobBulEndS | sdobBdlEndS | sdobBulStartC | sdobBulEndC =>
    exact deliver_answersCanonically (payload_canonical _)
  -- SDO: parsers, and the wire items they read
  case sdopAbort => exact execSdopAbort_answersCanonically ..
  case wireSdoAbort => exact execWireSdoAbort_answersCanonically ..
  case sdopSubblk | wireSdoSubblk => exact deliver_answersCanonically expectSubblk_canonical
  case sdopDlInitC | sdopUlInitS | wireSdoDlInitC | wireSdoUlInitS =>
    exact deliver_answersCanonically (expect_canonical (canonical_parseInitData _ (by decide)))
  case sdopDlInitS | sdopUlInitC | wireSdoDlInitS | wireSdoUlInitC =>
    exact deliver_answersCanonically (expect_canonical (canonical_parseInitPlain _ (by decide)))
  case sdopDlSegC | sdopUlSegS | wireSdoDlSegC | wireSdoUlSegS =>
    exact deliver_answersCanonically (expect_canonical (canonical_parseSegData _ (by decide)))
  case sdopDlSegS | sdopUlSegC | wireSdoDlSegS | wireSdoUlSegC =>
    exact deliver_answersCanonically (expect_canonical (canonical_parseSegPlain _ (by decide)))
  case sdopBdlInitC | sdopBulInitS | wireSdoBdlInitC | wireSdoBulInitS =>
    exact deliver_answersCanonically (expect_canonical (canonical_parseBlkInitSize _ (by decide)))
  case sdopBdlInitS | sdopBulInitC | wireSdoBdlInitS | wireSdoBulInitC =>
    exact deliver_answersCanonically (expect_canonical (canonical_parseBlkInitWindow _ (by decide)))
  case sdopBdlAckS | sdopBulAckC | wireSdoBdlAckS | wireSdoBulAckC =>
    exact deliver_answersCanonically (expect_canonical (canonical_parseBlkAck _ (by decide)))
  case sdopBdlEndC | sdopBulEndS | wireSdoBdlEndC | wireSdoBulEndS =>
    exact deliver_answersCanonically (expect_canonical (canonical_parseBlkEnd _ (by decide)))
  case sdopBdlEndS | sdopBulStartC | sdopBulEndC | wireSdoBdlEndS | wireSdoBulStartC | wireSdoBulEndC =>
    exact deliver_answersCanonically (expect_canonical (canonical_kindOnly (by decide)))
  -- CRC
  case crcClr => exact complete_answersCanonically (s := s.withCrcacc _) trivial
  case crcUpd => exact execCrcUpd_answersCanonically ..
  case crcRd | crcChk => exact complete_answersCanonically trivial

/-! ### Every step -/

/-- Everything a step can do: nothing, a reset, or a request run or rejected. -/
theorem step_cases (s : State) :
    (s.inputs = [] ∧ step s = .next s) ∨
    (∃ rest, s.inputs = .reset :: rest ∧ step s = .next (hostReset (s.withInputs rest))) ∨
    (∃ w rest i, s.inputs = .issue w :: rest ∧ decode s.csMap w = .ok i ∧ step s = exec i (s.withInputs rest)) ∨
    (∃ w rest e, s.inputs = .issue w :: rest ∧ decode s.csMap w = .error e ∧
      step s = reject e (s.withInputs rest)) := by
  obtain ⟨hin, ht⟩ | ⟨ev, rest, hin, ht⟩ := takeEvent_cases s
  · exact .inl ⟨hin, by simp only [step, ht]⟩
  cases ev with
  | reset => exact .inr (.inl ⟨rest, hin, by simp only [step, ht]⟩)
  | issue w =>
    cases hd : decode s.csMap w with
    | ok i => exact .inr (.inr (.inl ⟨w, rest, i, hin, hd, by simp only [step, ht, State.withInputs_csMap, hd]⟩))
    | error e => exact .inr (.inr (.inr ⟨w, rest, e, hin, hd, by simp only [step, ht, State.withInputs_csMap, hd]⟩))

/-- Settles O11: an idle step keeps the state, a reset leaves no response, and a request, run or rejected, is answered
canonically with the map kept. -/
theorem everyStepKeepsTheInvariant : Obligations.EveryStepKeepsTheInvariant := by
  intro s t hs ht
  have hm : s.csMap.Wf := hs.1
  obtain ⟨-, hstep⟩ | ⟨rest, -, hstep⟩ | ⟨w, rest, i, -, -, hstep⟩ | ⟨w, rest, e, -, -, hstep⟩ := step_cases s
  case inl => cases hstep.symm.trans ht; exact hs
  case inr.inl => cases hstep.symm.trans ht; exact ⟨hm, by simp⟩
  case inr.inr.inl =>
    exact inv_of_answersCanonically hm (exec_answersCanonically i (s.withInputs rest) hm) (hstep.symm.trans ht)
  case inr.inr.inr =>
    exact inv_of_answersCanonically hm (raise_answersCanonically _ (s.withInputs rest)) (hstep.symm.trans ht)

end Sys2Proof.Machine
end

section
/-! PROOFS. The accumulator (10_state.md R26, R30, R31): who writes `CRCACC`, who reads it, and its value after reset. -/

namespace Sys2Proof.Machine

/-! ### What an outcome that delivers a response says -/

@[simp] theorem nextState_next (t : State) : nextState (.next t) = some t := rfl

@[simp] theorem responseOf_next (t : State) : responseOf (.next t) = t.response := rfl

/-! ### Who writes and who reads `CRCACC` (10_state.md R26, R30) -/

/-- An instruction that does not write `CRCACC` only delivers a response; `CRC.RD` and `CRC.CHK` are the two whose
response may depend on it. -/
theorem exec_of_not_writesCrcacc (i : Instr) (s : State) (hw : ¬WritesCrcacc i) :
    ∃ r, exec i s = .next (s.withResponse r) := by
  by_cases hu : UsesCrcacc i
  case neg =>
    obtain ⟨r, hr⟩ := answersFrom_of_not_usesCrcacc i hu
    exact ⟨r s.csMap, hr s⟩
  case pos =>
    obtain hw' | rfl | ⟨crc, rfl⟩ := hu
    · exact absurd hw' hw
    · exact ⟨_, exec_crcRd s⟩
    · exact ⟨_, exec_crcChk crc s⟩

/-- Settles O13: the next state is the old one with a response delivered. -/
theorem otherOperationsKeepCrcacc : Obligations.OtherOperationsKeepCrcacc := by
  intro i s t hw ht
  obtain ⟨r, hr⟩ := exec_of_not_writesCrcacc i s hw
  cases hr.symm.trans ht
  exact ⟨s.withResponse_crcacc r, s.withResponse_csMap r, s.withResponse_inputs r⟩

/-- Settles O15: the response is a function of the configuration, the same for both states. -/
theorem otherOperationsIgnoreCrcacc : Obligations.OtherOperationsIgnoreCrcacc := by
  intro i s1 s2 hu hm
  obtain ⟨r, hr⟩ := answersFrom_of_not_usesCrcacc i hu
  have hresponse : ∀ s, responseOf (exec i s) = some (r s.csMap) := fun s => by simp [hr s]
  rw [hresponse s1, hresponse s2, hm]

/-! ### `CRCACC` after reset (10_state.md R31) -/

/-- What `CRC.UPD` leaves in `CRCACC` depends on its operands and on what `CRCACC` held, on nothing else. -/
theorem crcacc_crcUpd (len : BitVec 4) (dat : Lanes 8) (s : State) :
    (nextState (exec (.crcUpd len dat) s)).map State.crcacc =
      some (if 8 < len.toNat then s.crcacc else crcFrom s.crcacc (dat.toList.take len.toNat)) := by
  obtain h | h := Nat.lt_or_ge 8 len.toNat
  · simp [exec_crcUpd_bad len dat s h, h]
  · simp [exec_crcUpd_good len dat s h, Nat.not_lt.2 h]

/-- Settles O1: `CRC.CLR` writes the value that reset has left already. -/
theorem resetLeavesAccumulatorAtCrcInit : Obligations.ResetLeavesAccumulatorAtCrcInit := by
  refine ⟨rfl, rfl, fun len dat t ht => ?_⟩
  have hsame : t.crcacc = State.reset.crcacc := by
    cases (exec_crcClr State.reset).symm.trans ht
    rfl
  rw [crcacc_crcUpd, crcacc_crcUpd, hsame]

end Sys2Proof.Machine
end

section
/-! PROOFS. Repetition (20_memory.md R46): no operation reads the response that stands, so an operation that writes only
the response does the same again. -/

namespace Sys2Proof.Machine

/-! ### No operation reads the response (log entry 3) -/

theorem exec_crcUpd_withResponse (len : BitVec 4) (dat : Lanes 8) (s : State) (r : Response) :
    exec (.crcUpd len dat) (s.withResponse r) = exec (.crcUpd len dat) s := by
  obtain h | h := Nat.lt_or_ge 8 len.toNat
  · rw [exec_crcUpd_bad len dat _ h, exec_crcUpd_bad len dat s h, State.withResponse_withResponse]
  · rw [exec_crcUpd_good len dat _ h, exec_crcUpd_good len dat s h]
    rfl

/-- What an instruction does is independent of the response that stands. -/
@[simp] theorem exec_withResponse (i : Instr) (s : State) (r : Response) :
    exec i (s.withResponse r) = exec i s := by
  by_cases hu : UsesCrcacc i
  case neg =>
    obtain ⟨q, hq⟩ := answersFrom_of_not_usesCrcacc i hu
    rw [hq, hq, State.withResponse_csMap, State.withResponse_withResponse]
  case pos =>
    obtain (rfl | ⟨len, dat, rfl⟩) | rfl | ⟨crc, rfl⟩ := hu
    case inl.inl => rfl
    case inl.inr => exact exec_crcUpd_withResponse len dat s r
    case inr.inl => rfl
    case inr.inr => rfl

/-! ### Repeating an operation (20_memory.md R46) -/

/-- Settles O16: `CRC.CLR` writes a constant; every other operation but `CRC.UPD` moves to the old state with a response
delivered, and there it does the same again. -/
theorem repeatedOperationIsIdempotent : Obligations.RepeatedOperationIsIdempotent := by
  intro i s t hne ht
  by_cases hw : WritesCrcacc i
  case pos =>
    obtain rfl | ⟨len, dat, rfl⟩ := hw
    · cases (exec_crcClr s).symm.trans ht
      rfl
    · exact absurd rfl (hne len dat)
  case neg =>
    obtain ⟨r, hr⟩ := exec_of_not_writesCrcacc i s hw
    cases hr.symm.trans ht
    exact (exec_withResponse i s r).trans hr

end Sys2Proof.Machine
end

section
/-! PROOFS. The encoding of requests (30_encoding.md): what a selector decodes to (R91, R92), the masked operands of
`COB.COMPOSE` (R72), and the run of the pseudo-operation `CRC.CALC` (R96). -/

namespace Sys2Proof.Machine

/-! ### The step of an issued request (10_state.md R20; 60_exceptions.md R335) -/

/-- A request the decoder reads is run on the state without it. -/
theorem step_of_decode_ok {s : State} {w : PortWord} {rest : List HostEvent} {i : Instr}
    (hin : s.inputs = .issue w :: rest) (hd : decode s.csMap w = .ok i) : step s = exec i (s.withInputs rest) := by
  have ht : takeEvent s = some (.issue w, s.withInputs rest) := by simp only [takeEvent, hin]
  simp only [step, ht, State.withInputs_csMap, hd]

/-- A request the decoder rejects completes with its status. -/
theorem step_of_decode_error {s : State} {w : PortWord} {rest : List HostEvent} {e : DecodeError}
    (hin : s.inputs = .issue w :: rest) (hd : decode s.csMap w = .error e) :
    step s = reject e (s.withInputs rest) := by
  have ht : takeEvent s = some (.issue w, s.withInputs rest) := by simp only [takeEvent, hin]
  simp only [step, ht, State.withInputs_csMap, hd]

/-! ### Selectors (R91, R92) -/

/-- A value of `op` outside the table of R91 is rejected whatever the operand lanes hold: each of the 52 rows is
listed in `legalOps`. -/
theorem decodeOp_of_not_mem_legalOps {sel : BitVec 8} (o : OperandBundle) (hsel : sel.toNat ∉ legalOps) :
    decodeOp sel o = .error (.illegalOp sel) := by
  unfold decodeOp
  split
  case h_53 => rfl
  all_goals next hrow => exact absurd (hrow ▸ by decide) hsel

/-- Settles O5: the decoder rejects such a value, and a rejected request changes only the response. -/
theorem otherSelectorsCompleteWithIllegalOp : Obligations.OtherSelectorsCompleteWithIllegalOp := by
  refine ⟨by decide +kernel, fun s sel opd rest hsel hin => ?_⟩
  exact step_of_decode_error hin (decodeOp_of_not_mem_legalOps opd hsel)

/-- The expedited data are lanes 0 to 3 of `D` (10_state.md R23). -/
theorem firstFour_eq (d : Lanes 7) : firstFour d = #v[d[0], d[1], d[2], d[3]] := rfl

/-- The parser of a kind is selected by 0x60 plus the number of the kind. -/
theorem decode_parseOp (m : CsMap) (o : OperandBundle) (k : Kind) :
    decode m (.op (BitVec.ofNat 8 (0x60 + (kindNumber k).toNat)) o) = .ok (parseOp o.plen o.pay k) := by
  cases k <;> rfl

/-- Settles O6: the rows of `decodeOp`, with the parsers' rows as one family over the kinds. -/
theorem selectorsNameTheOperations : Obligations.SelectorsNameTheOperations := by
  intro m o
  simp only [← firstFour_eq]
  refine ⟨?canfEnc, ?canfDec, ?cobCompose, ?cobDecompose, ?cobClassify, ?sdoIdent,
    ?sdobAbort, ?sdobSubblk, ?sdobDlInitC, ?sdobDlInitS, ?sdobDlSegC, ?sdobDlSegS, ?sdobUlInitC, ?sdobUlInitS,
    ?sdobUlSegC, ?sdobUlSegS, ?sdobBdlInitC, ?sdobBdlInitS, ?sdobBdlAckS, ?sdobBdlEndC, ?sdobBdlEndS, ?sdobBulInitC,
    ?sdobBulInitS, ?sdobBulStartC, ?sdobBulAckC, ?sdobBulEndS, ?sdobBulEndC, ?parsers, ?crcClr, ?crcUpd, ?crcRd,
    ?crcChk⟩
  case parsers => exact decode_parseOp m o
  all_goals rfl

/-! ### Masked operands (R72) -/

/-- The COB-ID as a number (41_cobid.md R121). -/
theorem cobOf_toNat (fc4 : BitVec 4) (node7 : BitVec 7) :
    (cobOf fc4 node7).toNat = fc4.toNat * 128 + node7.toNat := by
  rw [cobOf, BitVec.toNat_append, ← Nat.shiftLeft_add_eq_or_of_lt node7.isLt, Nat.shiftLeft_eq]

theorem exec_cobCompose (fc node : BitVec 8) (s : State) :
    exec (.cobCompose fc node) s =
      .next (s.withResponse (.ok (.cobId (cobOf (fc.setWidth 4) (node.setWidth 7))))) := rfl

/-- Settles O23: cutting an operand to its width is the remainder by the power of two. -/
theorem cobComposeMasksItsOperands : Obligations.CobComposeMasksItsOperands := by
  intro s fc node
  refine ⟨_, exec_cobCompose fc node s, ?_⟩
  rw [cobOf_toNat, BitVec.toNat_setWidth, BitVec.toNat_setWidth]

/-! ### Programs of the host (10_state.md R24) -/

/-- A program whose first instruction is read back from its encoding runs that instruction and then the others. -/
theorem run_hostProgram_cons {s t : State} {i : Instr} {is : List Instr}
    (hin : s.inputs = hostProgram (i :: is)) (hd : decode s.csMap (encode i) = .ok i)
    (hi : exec i (s.withInputs (hostProgram is)) = .next t) :
    Host.Core.run core (i :: is).length s = Host.Core.run core is.length t := by
  have hstep : core.step s = .next t := (step_of_decode_ok hin hd).trans hi
  simp only [List.length_cons, Host.Core.run, hstep]

/-! ### `CRC.CALC` (R96) -/

/-- The loop of 45_crc16.md R262 over two byte sequences in a row. -/
theorem crcFrom_append (acc : BitVec 16) (xs ys : List Byte) :
    crcFrom acc (xs ++ ys) = crcFrom (crcFrom acc xs) ys := List.foldl_append

/-- The lanes that a group fills hold its bytes, in order. -/
theorem lanesOfList_take (bytes : List Byte) :
    (lanesOfList bytes).toList.take (min 8 bytes.length) = bytes.take 8 := by
  apply List.ext_getElem
  · simp
  · intro i hi _
    have hlt : i < bytes.length := by simp at hi; omega
    simp [lanesOfList, hlt]

/-- A group of up to eight bytes, fed by one `CRC.UPD`. -/
theorem exec_crcUpd_group (bytes : List Byte) (s : State) :
    exec (.crcUpd (BitVec.ofNat 4 (min 8 bytes.length)) (lanesOfList bytes)) s =
      .next ((s.withCrcacc (crcFrom s.crcacc (bytes.take 8))).withResponse (.ok .nothing)) := by
  have hlen : (BitVec.ofNat 4 (min 8 bytes.length)).toNat = min 8 bytes.length := by
    rw [BitVec.toNat_ofNat]; omega
  rw [exec_crcUpd_good _ _ _ (by omega), hlen, lanesOfList_take]

/-- The state once the host has fed `bytes` and read the accumulator: the checksum continued from `CRCACC`, in
`CRCACC` and in the response, and nothing more to issue. -/
def State.afterChecksum (s : State) (bytes : List Byte) : State :=
  { s with crcacc := crcFrom s.crcacc bytes, inputs := [],
           response := some (.ok (.crc (crcFrom s.crcacc bytes))) }

/-- Feeding `xs` first and then `ys` comes to the same as feeding both. -/
theorem afterChecksum_fed (s : State) (es : List HostEvent) (r : Response) (xs ys : List Byte) :
    (((s.withInputs es).withCrcacc (crcFrom s.crcacc xs)).withResponse r).afterChecksum ys =
      s.afterChecksum (xs ++ ys) := by
  simp only [State.afterChecksum, State.withResponse_crcacc, State.withCrcacc_crcacc, crcFrom_append]
  rfl

/-- With no byte left to feed, only the read is left. -/
theorem run_crcRd {s : State} (hin : s.inputs = hostProgram [.crcRd]) :
    Host.Core.run core 1 s = .next (s.afterChecksum []) :=
  run_hostProgram_cons hin rfl (exec_crcRd _)

/-- The updates of R96 with the read at their end, by induction along `crcUpdates`: each update takes eight bytes off
the sequence, or all that are left. -/
theorem run_crcUpdates_crcRd (k : Nat) (bytes : List Byte) (s : State) (hk : bytes.length ≤ k)
    (hin : s.inputs = hostProgram (crcUpdates k bytes ++ [.crcRd])) :
    Host.Core.run core (crcUpdates k bytes ++ [Instr.crcRd]).length s = .next (s.afterChecksum bytes) := by
  induction k, bytes using crcUpdates.induct generalizing s with
  | case1 bytes =>
    obtain rfl : bytes = [] := List.length_eq_zero_iff.1 (Nat.le_zero.1 hk)
    exact run_crcRd hin
  | case2 k => exact run_crcRd hin
  | case3 k b bs ih =>
    have hfuel : (bs.drop 7).length ≤ k := by simp at hk ⊢; omega
    have hbytes : (b :: bs).take 8 ++ bs.drop 7 = b :: bs := (b :: bs).take_append_drop 8
    have hgroup := run_hostProgram_cons hin rfl (exec_crcUpd_group (b :: bs) _)
    refine (hgroup.trans (ih _ hfuel rfl)).trans ?_
    rw [State.withInputs_crcacc, afterChecksum_fed, hbytes]

/-- Settles O56: the clear, then the updates and the read from a cleared accumulator. -/
theorem crcCalcReadsTheChecksum : Obligations.CrcCalcReadsTheChecksum := by
  intro s bytes hin
  have hclear := run_hostProgram_cons hin rfl (exec_crcClr _)
  exact hclear.trans (run_crcUpdates_crcRd _ bytes _ le_rfl rfl)

end Sys2Proof.Machine
end

section
/-! PROOFS. The frame and its record (40_canframe.md): what `CANF.ENC` writes into each lane (R101), what `CANF.DEC`
reads from them (R102, R104), and that the two undo each other up to the padding (R103, R105, R106). -/

namespace Sys2Proof.Machine

/-! ### Concatenated fields -/

/-- Fields of the same widths in a row are equal exactly when each is. -/
theorem append_eq_append_iff {m n : Nat} {a c : BitVec m} {b d : BitVec n} :
    a ++ b = c ++ d ↔ a = c ∧ b = d := by
  refine ⟨fun h => ⟨?_, ?_⟩, fun ⟨hac, hbd⟩ => hac ▸ hbd ▸ rfl⟩
  · simpa only [BitVec.extractLsb'_append_eq_left] using congrArg (BitVec.extractLsb' n m) h
  · simpa only [BitVec.extractLsb'_append_eq_right] using congrArg (BitVec.extractLsb' 0 n) h

theorem ofBool_getLsbD {n : Nat} (w : BitVec n) (i : Nat) : BitVec.ofBool (w.getLsbD i) = w.extractLsb' i 1 := by
  apply BitVec.eq_of_getLsbD_eq
  intro j hj
  obtain rfl : j = 0 := by omega
  simp

/-- Four fields in a row are equal exactly when each is. -/
theorem append4_eq_append4_iff {k l m n : Nat} {a a' : BitVec k} {b b' : BitVec l} {c c' : BitVec m}
    {d d' : BitVec n} : a ++ b ++ c ++ d = a' ++ b' ++ c' ++ d' ↔ a = a' ∧ b = b' ∧ c = c' ∧ d = d' := by
  simp only [append_eq_append_iff, and_assoc]

/-- Two little-endian words are equal exactly when their four lanes are (00_scope.md R16). -/
theorem le32_eq_le32_iff {n : Nat} (r q : Lanes n) (o : Nat) (h : o + 3 < n) :
    le32 r o h = le32 q o h ↔
      r[o + 3] = q[o + 3] ∧ r[o + 2] = q[o + 2] ∧ r[o + 1] = q[o + 1] ∧ r[o] = q[o] :=
  append4_eq_append4_iff

/-! ### The identifier word (30_encoding.md R61) -/

/-- The four fields cover the word. -/
theorem recordWord_of_fields (w : BitVec 32) :
    recordWord (wordArbId w) (w.getLsbD 31) (w.getLsbD 30) (w.getLsbD 29) = w := by
  have hcover : w.extractLsb' 31 1 ++ w.extractLsb' 30 1 ++ w.extractLsb' 29 1 ++ w.extractLsb' 0 29 =
      w.extractLsb' 0 (1 + 1 + 1 + 29) := by
    rw [BitVec.extractLsb'_append_extractLsb'_eq_extractLsb' (start₂ := 31) (start₁ := 30) rfl,
      BitVec.extractLsb'_append_extractLsb'_eq_extractLsb' (start₂ := 30) (start₁ := 29) rfl,
      BitVec.extractLsb'_append_extractLsb'_eq_extractLsb' (start₂ := 29) (start₁ := 0) rfl]
  simp only [recordWord, wordArbId, ofBool_getLsbD]
  exact hcover.trans BitVec.extractLsb'_eq_self

theorem recordWord_inj {a a' : BitVec 29} {x x' t t' e e' : Bool} :
    recordWord a x t e = recordWord a' x' t' e' ↔ x = x' ∧ t = t' ∧ e = e' ∧ a = a' := by
  rw [← BitVec.ofBool_eq_iff_eq (b := x), ← BitVec.ofBool_eq_iff_eq (b := t), ← BitVec.ofBool_eq_iff_eq (b := e)]
  exact append4_eq_append4_iff

/-! ### The lanes of an encoded frame (R101) -/

/-- The record that `CANF.ENC` makes of a frame. -/
def recordOf (f : CanFrame) : Record := encodeRecord f.arbId f.ext f.rtr f.err f.dlc f.dat

theorem recordOf_word (f : CanFrame) : le32 (recordOf f) 0 = recordWord f.arbId f.ext f.rtr f.err := by
  have hlow : ∀ i, (hi : i < 4) →
      (recordOf f)[i] = (put32 (zeroLanes 16) 0 (recordWord f.arbId f.ext f.rtr f.err))[i] := by
    intro i hi
    rw [recordOf, encodeRecord, putLanes_below _ _ _ _ _ _ (by omega), Vector.getElem_set_ne _ _ (by omega)]
  rw [← le32_put32 (zeroLanes 16) 0 (recordWord f.arbId f.ext f.rtr f.err) (by decide), le32_eq_le32_iff]
  exact ⟨hlow 3 (by decide), hlow 2 (by decide), hlow 1 (by decide), hlow 0 (by decide)⟩

theorem recordOf_length (f : CanFrame) : (recordOf f)[4].toNat = f.dlc.toNat := by
  rw [recordOf, encodeRecord, putLanes_below _ _ _ _ _ _ (by omega), Vector.getElem_set_self, BitVec.toNat_setWidth]
  omega

theorem recordOf_reserved {f : CanFrame} (hf : ValidFrame f) :
    (recordOf f)[5] = 0 ∧ (recordOf f)[6] = 0 ∧ (recordOf f)[7] = 0 := by
  obtain ⟨-, h5, h6, h7, -⟩ := canonical_encodeRecord f.arbId f.ext f.rtr f.err f.dlc f.dat hf
  exact ⟨h5, h6, h7⟩

theorem recordOf_data (f : CanFrame) (i : Fin 8) :
    (recordOf f)[8 + i.val] = if i.val < f.dlc.toNat then f.dat[i] else 0 := by
  rw [recordOf, encodeRecord, putLanes_getElem]
  split
  case isTrue h =>
    rw [if_pos (by omega), Fin.getElem_fin]
    simp only [Nat.add_sub_cancel_left]
  case isFalse h =>
    rw [if_neg (by omega), Vector.getElem_set_ne _ _ (by omega), put32_other _ _ _ _ _ _ (by omega),
      zeroLanes_getElem]

/-! ### The fields of a decoded record (R102) -/

/-- A record passes the checks of R102 that do not concern `rec_len`. -/
abbrev WellFormedRecord (r : Record) : Prop := r[5] = 0 ∧ r[6] = 0 ∧ r[7] = 0 ∧ r[4].toNat ≤ 8

theorem malformedRecord_iff (recLen : BitVec 8) (r : Record) :
    malformedRecord recLen r = true ↔ recLen ≠ 16 ∨ r[5] ≠ 0 ∨ r[6] ≠ 0 ∨ r[7] ≠ 0 ∨ 8 < r[4].toNat := by
  have hlen : recLen.toNat = Config.recBytes ↔ recLen = 16 := BitVec.toNat_inj (y := 16)
  simp only [malformedRecord, Bool.or_eq_true, bne_iff_ne, decide_eq_true_eq, or_assoc, ne_eq, hlen]
  rfl

theorem not_malformedRecord_iff (r : Record) : ¬malformedRecord 16 r = true ↔ WellFormedRecord r := by
  simp [malformedRecord_iff, WellFormedRecord]

theorem WellFormedRecord.length_le {r : Record} (h : WellFormedRecord r) : r[4].toNat ≤ 8 := by
  obtain ⟨-, -, -, hlen⟩ := h
  exact hlen

theorem decodeRecord_word (r : Record) :
    recordWord (decodeRecord r).arbId (decodeRecord r).ext (decodeRecord r).rtr (decodeRecord r).err = le32 r 0 :=
  recordWord_of_fields _

theorem decodeRecord_length {r : Record} (h : r[4].toNat ≤ 8) : (decodeRecord r).dlc.toNat = r[4].toNat := by
  simp only [decodeRecord, BitVec.toNat_setWidth]
  omega

theorem validFrame_decodeRecord {r : Record} (h : r[4].toNat ≤ 8) : ValidFrame (decodeRecord r) :=
  (decodeRecord_length h).trans_le h

theorem decodeRecord_data (r : Record) (i : Fin 8) :
    (decodeRecord r).dat[i] = if i.val < r[4].toNat then r[8 + i.val] else 0 :=
  lanesFrom_getElem r 8 8 _ (by decide) i.val i.isLt

/-! ### The two operations -/

theorem exec_encodeFrameOp_invalid {f : CanFrame} (hf : 8 < f.dlc.toNat) (s : State) :
    exec (encodeFrameOp f) s = .next (s.withResponse (.raised .badOperand)) := by
  simp only [encodeFrameOp, exec, execCanfEnc, if_pos ((badFrameLen_iff f.dlc).2 hf), raise_eq]

theorem exec_encodeFrameOp_valid {f : CanFrame} (hf : ValidFrame f) (s : State) :
    exec (encodeFrameOp f) s = .next (s.withResponse (.ok (.record (recordOf f)))) := by
  have hlen : ¬badFrameLen f.dlc = true := by rw [badFrameLen_iff]; omega
  simp only [encodeFrameOp, exec, execCanfEnc, if_neg hlen, complete_eq, recordOf]

theorem canfEnc_delivers_record {s : State} {f : CanFrame} {r : Record} (hf : ValidFrame f)
    (h : responseOf (exec (encodeFrameOp f) s) = some (.ok (.record r))) : recordOf f = r := by
  rw [exec_encodeFrameOp_valid hf, responseOf_next, State.withResponse_response] at h
  exact Results.record.inj (Response.ok.inj (Option.some.inj h))

theorem exec_canfDec_malformed {recLen : BitVec 8} {r : Record} (h : malformedRecord recLen r = true) (s : State) :
    exec (.canfDec recLen r) s = .next (s.withResponse (.raised .malformedFrame)) := by
  simp only [exec, execCanfDec, if_pos h, raise_eq]

theorem exec_canfDec_wellFormed {r : Record} (h : WellFormedRecord r) (s : State) :
    exec (.canfDec 16 r) s = .next (s.withResponse (.ok (.frame (decodeRecord r)))) := by
  simp only [exec, execCanfDec, if_neg ((not_malformedRecord_iff r).2 h), complete_eq]

/-- A record that decodes to a frame passed the checks, and the frame is the one of R102. -/
theorem canfDec_delivers_frame {s : State} {r : Record} {f : CanFrame}
    (h : responseOf (exec (.canfDec 16 r) s) = some (.ok (.frame f))) : WellFormedRecord r ∧ f = decodeRecord r := by
  by_cases hm : malformedRecord 16 r = true
  · rw [exec_canfDec_malformed hm, responseOf_next] at h
    cases h
  · have hr := (not_malformedRecord_iff r).1 hm
    rw [exec_canfDec_wellFormed hr, responseOf_next] at h
    cases h
    exact ⟨hr, rfl⟩

/-- Settles O18, from the lanes of an encoded frame. -/
theorem canfEncBuildsTheRecord : Obligations.CanfEncBuildsTheRecord := by
  intro s arbId ext rtr err dlc dat
  refine ⟨fun h => exec_encodeFrameOp_invalid (f := ⟨arbId, ext, rtr, err, dlc, dat⟩) h s, fun h => ?_⟩
  have hvalid : ValidFrame ⟨arbId, ext, rtr, err, dlc, dat⟩ := h
  obtain ⟨h5, h6, h7⟩ := recordOf_reserved hvalid
  exact ⟨_, exec_encodeFrameOp_valid hvalid s, recordOf_word _, recordOf_length _, h5, h6, h7, recordOf_data _⟩

/-- Settles O19, from the fields of a decoded record. -/
theorem canfDecReadsTheFrame : Obligations.CanfDecReadsTheFrame := by
  intro s recLen r
  refine ⟨fun h => exec_canfDec_malformed ((malformedRecord_iff recLen r).2 h) s, ?_⟩
  rintro ⟨rfl, (hr : WellFormedRecord r)⟩
  exact ⟨decodeRecord r, exec_canfDec_wellFormed hr s, decodeRecord_word r, decodeRecord_length hr.length_le,
    decodeRecord_data r⟩

/-! ### Decode after encode (R103, R106) -/

theorem wellFormedRecord_recordOf {f : CanFrame} (hf : ValidFrame f) : WellFormedRecord (recordOf f) := by
  obtain ⟨h5, h6, h7⟩ := recordOf_reserved hf
  exact ⟨h5, h6, h7, (recordOf_length f).trans_le hf⟩

/-- Decoding is a left inverse of encoding, under the equality of R100. -/
theorem sameFrame_decodeRecord_recordOf {f : CanFrame} (hf : ValidFrame f) :
    SameFrame f (decodeRecord (recordOf f)) := by
  obtain ⟨hext, hrtr, herr, harb⟩ := recordWord_inj.1 ((decodeRecord_word (recordOf f)).trans (recordOf_word f))
  have hlen : (decodeRecord (recordOf f)).dlc.toNat = f.dlc.toNat :=
    (decodeRecord_length ((recordOf_length f).trans_le hf)).trans (recordOf_length f)
  refine ⟨harb.symm, hext.symm, hrtr.symm, herr.symm, (BitVec.eq_of_toNat_eq hlen).symm, fun i hi => ?_⟩
  rw [decodeRecord_data, recordOf_length, if_pos hi, recordOf_data, if_pos hi]

theorem SameFrame.symm {f g : CanFrame} (h : SameFrame f g) : SameFrame g f := by
  obtain ⟨harb, hext, hrtr, herr, hdlc, hdat⟩ := h
  exact ⟨harb.symm, hext.symm, hrtr.symm, herr.symm, hdlc.symm, fun i hi => (hdat i (hdlc ▸ hi)).symm⟩

theorem SameFrame.trans {f g k : CanFrame} (hfg : SameFrame f g) (hgk : SameFrame g k) : SameFrame f k := by
  obtain ⟨harb, hext, hrtr, herr, hdlc, hdat⟩ := hfg
  obtain ⟨harb', hext', hrtr', herr', hdlc', hdat'⟩ := hgk
  exact ⟨harb.trans harb', hext.trans hext', hrtr.trans hrtr', herr.trans herr', hdlc.trans hdlc',
    fun i hi => (hdat i hi).trans (hdat' i (hdlc ▸ hi))⟩

/-- Settles O20: an encoded frame passes the checks of the decoder, which is a left inverse. -/
theorem frameRoundTrip : Obligations.FrameRoundTrip := fun s s' f hf =>
  ⟨recordOf f, decodeRecord (recordOf f), exec_encodeFrameOp_valid hf s,
    exec_canfDec_wellFormed (wellFormedRecord_recordOf hf) s', sameFrame_decodeRecord_recordOf hf⟩

/-- Settles O22: both frames equal the frame their one record decodes to. -/
theorem canfEncIsInjective : Obligations.CanfEncIsInjective := by
  intro s f g r hf hg hfr hgr
  have hfd : SameFrame f (decodeRecord r) := canfEnc_delivers_record hf hfr ▸ sameFrame_decodeRecord_recordOf hf
  have hgd : SameFrame g (decodeRecord r) := canfEnc_delivers_record hg hgr ▸ sameFrame_decodeRecord_recordOf hg
  exact hfd.trans hgd.symm

/-! ### Encode after decode (R105) -/

/-- The first eight lanes of a record: its word, its length and its three reserved lanes (30_encoding.md R61, R62). -/
theorem head_eq_of_fields {r q : Record} (hword : le32 r 0 = le32 q 0) (h4 : r[4] = q[4]) (h5 : r[5] = q[5])
    (h6 : r[6] = q[6]) (h7 : r[7] = q[7]) (i : Fin 8) : r[i.val] = q[i.val] := by
  obtain ⟨h3, h2, h1, h0⟩ := (le32_eq_le32_iff r q 0 (by decide)).1 hword
  fin_cases i
  exacts [h0, h1, h2, h3, h4, h5, h6, h7]

/-- Encoding a decoded record gives its word, its length and its reserved lanes back. -/
theorem recordOf_decodeRecord_head {r : Record} (h : WellFormedRecord r) (i : Fin 8) :
    (recordOf (decodeRecord r))[i.val] = r[i.val] := by
  obtain ⟨h5, h6, h7, hlen⟩ := h
  obtain ⟨z5, z6, z7⟩ := recordOf_reserved (validFrame_decodeRecord hlen)
  have hword := (recordOf_word (decodeRecord r)).trans (decodeRecord_word r)
  have h4 := BitVec.eq_of_toNat_eq ((recordOf_length (decodeRecord r)).trans (decodeRecord_length hlen))
  exact head_eq_of_fields hword h4 (z5.trans h5.symm) (z6.trans h6.symm) (z7.trans h7.symm) i

/-- Encoding a decoded record keeps its data lanes and zeroes its padding. -/
theorem recordOf_decodeRecord_data {r : Record} (h : r[4].toNat ≤ 8) (i : Fin 8) :
    (recordOf (decodeRecord r))[8 + i.val] = if i.val < r[4].toNat then r[8 + i.val] else 0 := by
  rw [recordOf_data, decodeRecord_length h, decodeRecord_data]
  split <;> rfl

/-- A record is its first eight lanes and its last eight. -/
theorem record_ext {r q : Record} (hhead : ∀ i : Fin 8, r[i.val] = q[i.val])
    (hdata : ∀ i : Fin 8, r[8 + i.val] = q[8 + i.val]) : r = q := by
  ext1 i hi
  obtain h | h := Nat.lt_or_ge i 8
  · exact hhead ⟨i, h⟩
  · obtain ⟨j, rfl⟩ := Nat.exists_eq_add_of_le h
    exact hdata ⟨j, by omega⟩

/-- A decoded record is encoded back to itself exactly when its padding is 0. -/
theorem recordOf_decodeRecord_eq_iff {r : Record} (h : WellFormedRecord r) :
    recordOf (decodeRecord r) = r ↔ ∀ i : Fin 8, r[4].toNat ≤ i.val → r[8 + i.val] = 0 := by
  have hdata := recordOf_decodeRecord_data h.length_le
  constructor
  · intro heq i hi
    have hi' := hdata i
    rwa [heq, if_neg (by omega)] at hi'
  · refine fun hpad => record_ext (recordOf_decodeRecord_head h) fun i => (hdata i).trans ?_
    split
    case isTrue => rfl
    case isFalse hi => exact (hpad i (Nat.not_lt.1 hi)).symm

/-- The decoder does not see the padding (R104). -/
theorem decodeRecord_eq_of_padding {r q : Record} (hhead : ∀ i : Fin 8, r[i.val] = q[i.val])
    (hdata : ∀ i : Fin 8, i.val < r[4].toNat → r[8 + i.val] = q[8 + i.val]) : decodeRecord r = decodeRecord q := by
  have hword : le32 r 0 = le32 q 0 := (le32_eq_le32_iff r q 0 _).2 ⟨hhead 3, hhead 2, hhead 1, hhead 0⟩
  have h4 : r[4] = q[4] := hhead 4
  have hdat : lanesFrom r 8 8 q[4].toNat = lanesFrom q 8 8 q[4].toNat := by
    ext1 i hi
    rw [lanesFrom_getElem, lanesFrom_getElem, ← h4]
    exact ite_congr rfl (hdata ⟨i, hi⟩) fun _ => rfl
  simp only [decodeRecord, hword, h4, hdat]

/-- A record of a frame without data whose last lane, all padding, holds `pad`. -/
def paddedRecord (pad : Byte) : Record := (zeroLanes 16).set 15 pad

theorem wellFormedRecord_paddedRecord (pad : Byte) : WellFormedRecord (paddedRecord pad) := by
  simp [WellFormedRecord, paddedRecord]

theorem decodeRecord_paddedRecord (pad : Byte) :
    decodeRecord (paddedRecord pad) = decodeRecord (paddedRecord 0) := by
  refine decodeRecord_eq_of_padding (fun i => ?_) fun i hi => ?_
  · rw [paddedRecord, paddedRecord, Vector.getElem_set_ne _ _ (by omega), Vector.getElem_set_ne _ _ (by omega)]
  · simp [paddedRecord] at hi

/-- Settles O21; two records that differ in their padding show that decoding is not injective. -/
theorem reencodingCleansThePadding : Obligations.ReencodingCleansThePadding := by
  constructor
  · intro s s' r f hdec
    obtain ⟨hr, rfl⟩ := canfDec_delivers_frame hdec
    have hencode := exec_encodeFrameOp_valid (validFrame_decodeRecord hr.length_le) s'
    exact ⟨recordOf (decodeRecord r), hencode, recordOf_decodeRecord_head hr,
      recordOf_decodeRecord_data hr.length_le, recordOf_decodeRecord_eq_iff hr⟩
  · intro s
    have hdec := fun pad => exec_canfDec_wellFormed (wellFormedRecord_paddedRecord pad) s
    refine ⟨paddedRecord 0, paddedRecord 1, by decide, ?_, decodeRecord (paddedRecord 0), ?_⟩
    · rw [hdec, hdec, decodeRecord_paddedRecord 1]
    · rw [hdec, responseOf_next, State.withResponse_response]

end Sys2Proof.Machine
end

section
/-! PROOFS. The identifier and its message class (41_cobid.md): the two fields of an 11-bit identifier (R122, R123),
when a frame is classifiable (R125), and the class of each function code (R126). -/

namespace Sys2Proof.Machine

/-! ### The fields of an identifier (30_encoding.md R63) -/

@[simp] theorem cobFc_cobOf (fc4 : BitVec 4) (node7 : BitVec 7) : cobFc (cobOf fc4 node7) = fc4 :=
  BitVec.extractLsb'_append_eq_left

@[simp] theorem cobNode_cobOf (fc4 : BitVec 4) (node7 : BitVec 7) : cobNode (cobOf fc4 node7) = node7 :=
  BitVec.extractLsb'_append_eq_right

/-- The two fields cover the identifier. -/
@[simp] theorem cobOf_cobFc_cobNode (cob : BitVec 11) : cobOf (cobFc cob) (cobNode cob) = cob := by
  have hcover : cob.extractLsb' 7 4 ++ cob.extractLsb' 0 7 = cob.extractLsb' 0 (4 + 7) :=
    BitVec.extractLsb'_append_extractLsb'_eq_extractLsb' rfl
  exact hcover.trans BitVec.extractLsb'_eq_self

theorem cobNode_toNat (cob : BitVec 11) : (cobNode cob).toNat = cob.toNat % 128 :=
  BitVec.extractLsb'_toNat 0 7 cob

theorem cobFc_toNat (cob : BitVec 11) : (cobFc cob).toNat = cob.toNat / 128 := by
  have hsum := cobOf_toNat (cobFc cob) (cobNode cob)
  rw [cobOf_cobFc_cobNode, cobNode_toNat] at hsum
  omega

/-- Masking an operand to its low bits before it is cut to them has no effect. -/
theorem setWidth_and_of_setWidth_eq_allOnes {m n : Nat} (v mask : BitVec m) (h : mask.setWidth n = BitVec.allOnes n) :
    (v &&& mask).setWidth n = v.setWidth n := by
  rw [BitVec.setWidth_and, h, BitVec.and_allOnes]

/-! ### `COB.DECOMPOSE` (R122, R123) -/

theorem exec_cobDecompose (cob : BitVec 11) (s : State) :
    exec (.cobDecompose cob) s = .next (s.withResponse (.ok (.cobFields (cobFc cob) (cobNode cob)))) := rfl

/-- Settles O24: the fields are the quotient and the remainder by 128. -/
theorem cobDecomposeSplitsTheId : Obligations.CobDecomposeSplitsTheId := fun s cob =>
  ⟨_, _, exec_cobDecompose cob s, cobFc_toNat cob, cobNode_toNat cob⟩

/-- Composing the fields of an identifier, widened to operands, gives it back. -/
theorem exec_cobCompose_fields (cob : BitVec 11) (s : State) :
    exec (.cobCompose ((cobFc cob).setWidth 8) ((cobNode cob).setWidth 8)) s =
      .next (s.withResponse (.ok (.cobId cob))) := by
  rw [exec_cobCompose, BitVec.setWidth_setWidth_of_le _ (by decide), BitVec.setWidth_setWidth_of_le _ (by decide),
    BitVec.setWidth_eq, BitVec.setWidth_eq, cobOf_cobFc_cobNode]

/-- Decomposing a composed identifier gives its two fields. -/
theorem exec_cobDecompose_cobOf (fc4 : BitVec 4) (node7 : BitVec 7) (s : State) :
    exec (.cobDecompose (cobOf fc4 node7)) s = .next (s.withResponse (.ok (.cobFields fc4 node7))) := by
  rw [exec_cobDecompose, cobFc_cobOf, cobNode_cobOf]

/-- Settles O25: the fields cover the identifier, and each is read back from it. -/
theorem composeAndDecomposeInvert : Obligations.ComposeAndDecomposeInvert := by
  constructor
  · intro s s' cob
    exact ⟨cobFc cob, cobNode cob, exec_cobDecompose cob s, exec_cobCompose_fields cob s'⟩
  · intro s s' fc node
    refine ⟨_, exec_cobCompose fc node s, ?_⟩
    rw [setWidth_and_of_setWidth_eq_allOnes fc 0x0F rfl, setWidth_and_of_setWidth_eq_allOnes node 0x7F rfl]
    exact exec_cobDecompose_cobOf _ _ s'

/-! ### `COB.CLASSIFY` (R125) -/

theorem exec_cobClassify (arbId : BitVec 29) (ext rtr err : Bool) (s : State) :
    exec (.cobClassify arbId ext rtr err) s = .next (s.withResponse (.ok (.classification (classify arbId ext err)))) :=
  rfl

/-- The identifier bits above the eleventh are 0 exactly when the identifier fits 11 bits. -/
theorem extractLsb'_eleven_eq_zero_iff (arbId : BitVec 29) : arbId.extractLsb' 11 18 = 0 ↔ arbId.toNat < 2048 := by
  rw [← BitVec.toNat_inj, BitVec.extractLsb'_toNat, Nat.shiftRight_eq_div_pow]
  simp only [BitVec.ofNat_eq_ofNat, BitVec.toNat_ofNat]
  omega

theorem isClassifiable_iff (arbId : BitVec 29) (ext err : Bool) :
    isClassifiable arbId ext err = true ↔ ext = false ∧ err = false ∧ arbId.toNat < 2048 := by
  simp only [isClassifiable, Bool.not_eq_true', Bool.or_eq_false_iff, bne_eq_false_iff_eq,
    extractLsb'_eleven_eq_zero_iff, and_assoc]

theorem not_isClassifiable_iff (arbId : BitVec 29) (ext err : Bool) :
    ¬isClassifiable arbId ext err = true ↔ ext = true ∨ err = true ∨ 2048 ≤ arbId.toNat := by
  rw [isClassifiable_iff, not_and_or, not_and_or, Bool.not_eq_false, Bool.not_eq_false, Nat.not_lt]

theorem classify_of_not_isClassifiable {arbId : BitVec 29} {ext err : Bool}
    (h : ¬isClassifiable arbId ext err = true) :
    classify arbId ext err = ⟨false, .unclassifiable, 0, 0, 0, false⟩ := if_neg h

/-- What `COB.CLASSIFY` reports of an 11-bit identifier. -/
def classificationOf (cob : BitVec 11) : Classification :=
  ⟨true, classOf (cobFc cob), cobFc cob, cobNode cob, pdoNumber (cobFc cob), pdoReceive (cobFc cob)⟩

theorem classify_of_isClassifiable {arbId : BitVec 29} {ext err : Bool} (h : isClassifiable arbId ext err = true) :
    classify arbId ext err = classificationOf (arbId.setWidth 11) := if_pos h

/-- The eight PDO codes number four pairs. -/
theorem pdoNumber_toNat (fc4 : BitVec 4) :
    (pdoNumber fc4).toNat = if 3 ≤ fc4.toNat ∧ fc4.toNat ≤ 10 then (fc4.toNat - 3) / 2 + 1 else 0 := by
  revert fc4; decide

/-- The second code of each pair is the receiving one. -/
theorem pdoReceive_eq (fc4 : BitVec 4) :
    pdoReceive fc4 = decide (3 ≤ fc4.toNat ∧ fc4.toNat ≤ 10 ∧ (fc4.toNat - 3) % 2 = 1) := by
  revert fc4; decide

/-- Settles O26, by whether the frame is classifiable. -/
theorem cobClassifyReportsTheClass : Obligations.CobClassifyReportsTheClass := by
  intro s arbId ext rtr err
  rw [exec_cobClassify]
  constructor
  · intro hbad
    rw [classify_of_not_isClassifiable ((not_isClassifiable_iff arbId ext err).2 hbad)]
    rfl
  · intro hgood
    have hid : (arbId.setWidth 11).toNat = arbId.toNat := by
      obtain ⟨-, -, hlt⟩ := hgood
      exact (BitVec.toNat_setWidth 11 arbId).trans (Nat.mod_eq_of_lt hlt)
    rw [classify_of_isClassifiable ((isClassifiable_iff arbId ext err).2 hgood), ← hid]
    exact ⟨_, rfl, rfl, cobFc_toNat _, cobNode_toNat _, rfl, pdoNumber_toNat _, pdoReceive_eq _⟩

/-! ### The function codes (R126) -/

/-- A frame that carries a function code and a node on 11 bits is classified by them. -/
theorem classify_cobOf (fc4 : BitVec 4) (node7 : BitVec 7) :
    classify ((cobOf fc4 node7).setWidth 29) false false =
      ⟨true, classOf fc4, fc4, node7, pdoNumber fc4, pdoReceive fc4⟩ := by
  have hid : ((cobOf fc4 node7).setWidth 29).toNat < 2048 := by
    rw [BitVec.toNat_setWidth_of_le (by decide)]
    exact (cobOf fc4 node7).isLt
  rw [classify_of_isClassifiable ((isClassifiable_iff _ _ _).2 ⟨rfl, rfl, hid⟩),
    BitVec.setWidth_setWidth_of_le _ (by decide), BitVec.setWidth_eq, classificationOf, cobFc_cobOf, cobNode_cobOf]

/-- The row of R126 that the model's functions give for a function code. -/
def functionCodeRow (fc4 : BitVec 4) : BitVec 4 × BitVec 4 × BitVec 3 × Bool :=
  (fc4, classCode (classOf fc4), pdoNumber fc4, pdoReceive fc4)

/-- The 16 rows of R126, function codes in order. -/
theorem functionCodeRows_eq :
    (List.finRange 16).map (fun i => functionCodeRow (BitVec.ofFin i)) =
      [(0, 0, 0, false), (1, 1, 0, false), (2, 2, 0, false), (3, 3, 1, false), (4, 3, 1, true), (5, 3, 2, false),
        (6, 3, 2, true), (7, 3, 3, false), (8, 3, 3, true), (9, 3, 4, false), (10, 3, 4, true), (11, 4, 0, false),
        (12, 5, 0, false), (13, 7, 0, false), (14, 6, 0, false), (15, 7, 0, false)] := by decide

/-- Settles O27: a row of the table is the one of its function code, by which a frame is classified. -/
theorem functionCodeClasses : Obligations.FunctionCodeClasses := by
  refine ⟨fun s node rtr row hrow => ?_, rfl⟩
  rw [← functionCodeRows_eq] at hrow
  obtain ⟨i, -, rfl⟩ := List.mem_map.1 hrow
  refine ⟨classOf (BitVec.ofFin i), rfl, (exec_cobClassify _ _ rtr _ s).trans ?_⟩
  rw [functionCodeRow, ← classify_cobOf, cobOf]
  rfl

end Sys2Proof.Machine
end

section
/-! PROOFS. The parsers of the SDO messages as one family over the kinds (42_sdo_common.md R142 to R144, R149): what
the parser of a kind answers to a payload of the kind, to an abort and to a payload of a short frame; and that
`SDO.IDENT` (R145, R146) names the kind whose parser completes with it. -/

namespace Sys2Proof.Machine

/-! ### The shared parser (R142) -/

theorem expect_of_short {m : CsMap} {dir : Sender} {want : BitVec 3} {sub : Option (BitVec 2)} {plen : BitVec 4}
    {pay : Payload} {fields : Results} (hp : plen ≠ 8) :
    expect m dir want sub plen pay fields = .raised .malformedSdo := by
  simp [expect, (badPlen_iff plen).2 hp]

theorem expect_of_abort {m : CsMap} {dir : Sender} {want : BitVec 3} {sub : Option (BitVec 2)} {pay : Payload}
    {fields : Results} (ha : cmdSpec pay[0] = Config.csAbort) (hw : want ≠ Config.csAbort) :
    expect m dir want sub 8 pay fields = .ok (parseAbort pay) := by
  simp [expect, ha, hw]

theorem expect_of_match {m : CsMap} {dir : Sender} {want : BitVec 3} {sub : Option (BitVec 2)} {pay : Payload}
    {fields : Results} (hcs : cmdSpec pay[0] = want) (hsub : ∀ v, sub = some v → blkSub m dir want pay[0] = v) :
    expect m dir want sub 8 pay fields = .ok fields := by
  cases sub with
  | none => simp [expect, hcs]
  | some v => simp [expect, hcs, hsub v rfl]

/-! ### The parser of a kind -/

/-- The sender whose envelopes the parser of a kind reads (30_encoding.md R75, column "Sender"). -/
def kindSender : Kind → Sender
  | .dlInitS | .dlSegS | .ulInitS | .ulSegS | .bdlInitS | .bdlAckS | .bdlEndS | .bulInitS | .bulEndS => .server
  | _ => .client

/-- The block subcommand of a kind, where it has one (R66, R78). -/
def kindSub (m : CsMap) : Kind → Option (BitVec 2)
  | .bdlInitC | .bdlInitS | .bulInitC | .bulInitS => some Config.subInitiate
  | .bdlEndC | .bdlEndS | .bulEndS | .bulEndC => some Config.subEnd
  | .bdlAckS | .bulAckC => some Config.subResponse
  | .bulStartC => some m.subStart
  | _ => none

/-- The result bundle of a kind, read from a payload. -/
def kindFields (pay : Payload) : Kind → Results
  | .abort => parseAbort pay
  | .subblk => parseSubblk pay
  | .dlInitC => parseInitData .dlInitC pay
  | .dlInitS => parseInitPlain .dlInitS pay
  | .dlSegC => parseSegData .dlSegC pay
  | .dlSegS => parseSegPlain .dlSegS pay
  | .ulInitC => parseInitPlain .ulInitC pay
  | .ulInitS => parseInitData .ulInitS pay
  | .ulSegC => parseSegPlain .ulSegC pay
  | .ulSegS => parseSegData .ulSegS pay
  | .bdlInitC => parseBlkInitSize .bdlInitC pay
  | .bdlInitS => parseBlkInitWindow .bdlInitS pay
  | .bdlAckS => parseBlkAck .bdlAckS pay
  | .bdlEndC => parseBlkEnd .bdlEndC pay
  | .bdlEndS => .kindOnly .bdlEndS
  | .bulInitC => parseBlkInitWindow .bulInitC pay
  | .bulInitS => parseBlkInitSize .bulInitS pay
  | .bulStartC => .kindOnly .bulStartC
  | .bulAckC => parseBlkAck .bulAckC pay
  | .bulEndS => parseBlkEnd .bulEndS pay
  | .bulEndC => .kindOnly .bulEndC

theorem resultKind_kindFields (pay : Payload) (k : Kind) : resultKind (kindFields pay k) = some k := by
  cases k <;> rfl

/-- Only the sub-block has no command specifier. -/
theorem kindCs_eq_none_iff (m : CsMap) (k : Kind) : kindCs m k = none ↔ k = .subblk := by
  cases k <;> simp [kindCs]

/-- `SDOP.ABORT` is the shared parser asked for the specifier of an abort. -/
theorem exec_sdopAbort (dir : Sender) (plen : BitVec 4) (pay : Payload) (s : State) :
    exec (.sdopAbort plen pay) s = .next (s.withResponse
      (expect s.csMap dir Config.csAbort none plen pay (parseAbort pay))) := by
  simp only [exec, execSdopAbort, expect, bne_self_eq_false, Bool.and_false, Bool.false_eq_true, if_false]
  split
  · rfl
  · split <;> rfl

/-- The parser of an envelope kind is the shared parser asked for the kind. -/
theorem exec_parseOp {s : State} {k : Kind} {cs : BitVec 3} (plen : BitVec 4) (pay : Payload)
    (hcs : kindCs s.csMap k = some cs) :
    exec (parseOp plen pay k) s = .next (s.withResponse
      (expect s.csMap (kindSender k) cs (kindSub s.csMap k) plen pay (kindFields pay k))) := by
  cases k
  case abort => cases hcs; exact exec_sdopAbort _ plen pay s
  case subblk => cases hcs
  all_goals cases hcs; rfl

theorem exec_sdopSubblk (plen : BitVec 4) (pay : Payload) (s : State) :
    exec (.sdopSubblk plen pay) s = .next (s.withResponse (expectSubblk plen pay)) := rfl

/-! ### A parser asks for the pattern of its kind (30_encoding.md R66, R75) -/

/-- Where bit 1 may be `s`, a subcommand with bit 0 = 0 is read as an initiate. -/
theorem blkSub_clientDownload (m : CsMap) (b0 : Byte) :
    blkSub m .client m.ccsBlkDl b0 = if (subField b0).getLsbD 0 then subField b0 else 0 := by
  rw [blkSub, ← bit_zero_of_subField]
  cases b0.getLsbD 0 <;> simp [Config.subInitiate]

theorem blkSub_serverUpload (m : CsMap) (b0 : Byte) :
    blkSub m .server m.scsBlkUl b0 = if (subField b0).getLsbD 0 then subField b0 else 0 := by
  rw [blkSub, ← bit_zero_of_subField]
  cases b0.getLsbD 0 <;> simp [Config.subInitiate]

theorem blkSub_clientUpload (m : CsMap) (hm : m.Wf) (b0 : Byte) :
    blkSub m .client m.ccsBlkUl b0 = subField b0 := by
  simp [blkSub, client_blocks_differ m hm]

theorem blkSub_serverDownload (m : CsMap) (hm : m.Wf) (b0 : Byte) :
    blkSub m .server m.scsBlkDl b0 = subField b0 := by
  simp [blkSub, server_blocks_differ m hm]

theorem ite_bit_zero_eq_zero_iff (v : BitVec 2) : (if v.getLsbD 0 then v else 0) = 0 ↔ (!v.getLsbD 0) = true := by
  revert v; decide

theorem ite_bit_zero_eq_one_iff (v : BitVec 2) : (if v.getLsbD 0 then v else 0) = 1 ↔ v = 1 := by
  revert v; decide

/-- The bits of R75 below the command specifier are the subcommand that the parser of the kind asks for. -/
theorem lowPattern_iff {m : CsMap} (hm : m.Wf) {k : Kind} {cs : BitVec 3} (hcs : kindCs m k = some cs) (b0 : Byte) :
    ((b0.setWidth 5 &&& (kindLowPattern m k).1) == (kindLowPattern m k).2) = true ↔
      ∀ v, kindSub m k = some v → blkSub m (kindSender k) cs b0 = v := by
  cases k
  case subblk => cases hcs
  -- `s` stands beside the subcommand
  case bdlInitC | bulInitS =>
    cases hcs
    simp only [kindLowPattern, low_mask_one, bit_zero_of_subField, kindSub, Option.some.injEq, forall_eq', kindSender,
      blkSub_clientDownload, blkSub_serverUpload, Config.subInitiate, ite_bit_zero_eq_zero_iff]
  case bdlEndC | bulEndS =>
    cases hcs
    simp only [kindLowPattern, low_mask_three_one, beq_iff_eq, kindSub, Option.some.injEq, forall_eq', kindSender,
      blkSub_clientDownload, blkSub_serverUpload, Config.subEnd, ite_bit_zero_eq_one_iff]
  -- the subcommand alone
  case bdlInitS | bdlAckS | bdlEndS | bulInitC | bulStartC | bulAckC | bulEndC =>
    cases hcs
    simp only [kindLowPattern, low_mask_three, low_mask_three_zero, low_mask_three_one, low_mask_three_two, beq_iff_eq,
      kindSub, Option.some.injEq, forall_eq', kindSender,
      blkSub_clientUpload m hm, blkSub_serverDownload m hm, Config.subInitiate, Config.subEnd, Config.subResponse]
  -- no subcommand
  all_goals simp [kindLowPattern, kindSub]

theorem matchesKind_iff {m : CsMap} (hm : m.Wf) {k : Kind} {cs : BitVec 3} (hcs : kindCs m k = some cs) (b0 : Byte) :
    matchesKind m k b0 = true ↔
      cmdSpec b0 = cs ∧ ∀ v, kindSub m k = some v → blkSub m (kindSender k) cs b0 = v := by
  simp only [matchesKind, hcs, Bool.and_eq_true, beq_iff_eq, ← lowPattern_iff hm hcs]

/-! ### What a parser answers (R142 to R144) -/

/-- A sub-block's byte 0 is never that of an abort, whose low bits are 0 (R79). -/
theorem ne_abortByte_of_seqField {b0 : Byte} (h : seqField b0 ≠ 0) : b0 ≠ abortByte := fun hab =>
  h (hab ▸ by decide)

theorem matchesKind_subblk_iff (m : CsMap) (b0 : Byte) : matchesKind m .subblk b0 = true ↔ seqField b0 ≠ 0 := by
  simp [matchesKind, kindCs]

theorem matchesKind_abort_iff (m : CsMap) (b0 : Byte) :
    matchesKind m .abort b0 = true ↔ cmdSpec b0 = Config.csAbort := by
  simp only [matchesKind, kindCs, kindLowPattern, low_mask_zero, Bool.and_true, beq_iff_eq]

theorem expectSubblk_of_short {plen : BitVec 4} {pay : Payload} (hp : plen ≠ 8) :
    expectSubblk plen pay = .raised .malformedSdo := by
  simp [expectSubblk, (badPlen_iff plen).2 hp]

theorem expectSubblk_of_abort {pay : Payload} (h : pay[0] = abortByte) :
    expectSubblk 8 pay = .ok (parseAbort pay) := by
  simp [expectSubblk, h]

theorem expectSubblk_of_seqField {pay : Payload} (h : seqField pay[0] ≠ 0) :
    expectSubblk 8 pay = .ok (parseSubblk pay) := by
  simpa [expectSubblk, ne_abortByte_of_seqField h] using h

/-- A payload whose byte 0 has the pattern of a kind is read by the parser of the kind. -/
theorem exec_parseOp_of_matchesKind {s : State} (hm : s.csMap.Wf) {k : Kind} {pay : Payload}
    (h : matchesKind s.csMap k pay[0] = true) :
    exec (parseOp 8 pay k) s = .next (s.withResponse (.ok (kindFields pay k))) := by
  cases hcs : kindCs s.csMap k with
  | none =>
    obtain rfl := (kindCs_eq_none_iff _ k).1 hcs
    rw [parseOp, exec_sdopSubblk, expectSubblk_of_seqField ((matchesKind_subblk_iff _ _).1 h), kindFields]
  | some cs =>
    obtain ⟨hspec, hsub⟩ := (matchesKind_iff hm hcs _).1 h
    rw [exec_parseOp 8 pay hcs, expect_of_match hspec hsub]

/-- The parser of a kind completes with the kind for the payloads of its pattern and for no others. -/
theorem parseOp_delivers_kind_iff {s : State} (hm : s.csMap.Wf) (k : Kind) (pay : Payload) :
    (∃ r, responseOf (exec (parseOp 8 pay k) s) = some (.ok r) ∧ resultKind r = some k) ↔
      matchesKind s.csMap k pay[0] = true := by
  constructor
  case mpr =>
    intro h
    exact ⟨kindFields pay k, by rw [exec_parseOp_of_matchesKind hm h]; rfl, resultKind_kindFields pay k⟩
  rintro ⟨r, hr, hk⟩
  cases hcs : kindCs s.csMap k with
  | none =>
    obtain rfl := (kindCs_eq_none_iff _ k).1 hcs
    rw [parseOp, exec_sdopSubblk, responseOf_next, State.withResponse_response] at hr
    obtain he | ⟨-, -, he⟩ | ⟨-, -, hseq, -⟩ := expectSubblk_cases 8 pay
    · rw [he] at hr; cases hr
    · rw [he] at hr; cases hr; cases hk
    · exact (matchesKind_subblk_iff _ _).2 hseq
  | some cs =>
    rw [exec_parseOp 8 pay hcs, responseOf_next, State.withResponse_response] at hr
    obtain he | ⟨-, -, hne, he⟩ | ⟨-, hspec, hsub, -⟩ :=
      expect_cases s.csMap (kindSender k) cs (kindSub s.csMap k) 8 pay (kindFields pay k)
    · rw [he] at hr; cases hr
    · rw [he] at hr; cases hr; cases hk; cases hcs; exact absurd rfl hne
    · exact (matchesKind_iff hm hcs _).2 ⟨hspec, hsub⟩

/-- Settles O34: both shared parsers check the data length first. -/
theorem shortPayloadIsRefused : Obligations.ShortPayloadIsRefused := by
  intro s plen pay k hp
  cases hcs : kindCs s.csMap k with
  | none =>
    obtain rfl := (kindCs_eq_none_iff _ k).1 hcs
    rw [parseOp, exec_sdopSubblk, expectSubblk_of_short hp]
    rfl
  | some cs =>
    rw [exec_parseOp plen pay hcs, expect_of_short hp]
    rfl

/-! ### The abort (R143, R148, R149) -/

theorem cmdSpec_eq_csAbort_iff (b0 : Byte) : cmdSpec b0 = Config.csAbort ↔ b0.toNat / 32 = 4 := by
  rw [← cmdSpec_toNat, ← BitVec.toNat_inj]
  rfl

/-- The fields of an abort, as the statements write them. -/
theorem parseAbort_eq (pay : Payload) : parseAbort pay = abortFields pay := rfl

/-- Settles O33: to the parser of the abort it is a payload of its own kind, to the others an abort. -/
theorem abortIsSeenInEveryContext : Obligations.AbortIsSeenInEveryContext := by
  intro s pay k hm
  constructor
  · intro hk hb
    have hspec : cmdSpec pay[0] = Config.csAbort := (cmdSpec_eq_csAbort_iff _).2 hb
    by_cases hka : k = .abort
    case pos =>
      obtain rfl := hka
      exact exec_parseOp_of_matchesKind hm ((matchesKind_abort_iff _ _).2 hspec)
    case neg =>
      obtain ⟨cs, hcs⟩ := Option.ne_none_iff_exists'.1 (mt (kindCs_eq_none_iff s.csMap k).1 hk)
      rw [exec_parseOp 8 pay hcs, expect_of_abort hspec (kindCs_ne_abort _ hm k hka cs hcs), parseAbort_eq]
      rfl
  · rintro rfl hb
    rw [parseOp, exec_sdopSubblk, expectSubblk_of_abort hb, parseAbort_eq]
    rfl

/-- Settles O31: the eight lanes of `put32` over those of `set_addr` and `set_cmd`. -/
theorem sdobAbortBuildsThePayload : Obligations.SdobAbortBuildsThePayload := fun _ _ _ _ => rfl

/-- Asked for the specifier of an abort, the shared parser refuses every other. -/
theorem parserAnswer_csAbort (plen : BitVec 4) (pay : Payload) (fields : Results) :
    parserAnswer Config.csAbort true plen pay fields =
      if plen ≠ 8 ∨ pay[0].toNat / 32 ≠ 4 then .raised .malformedSdo else .ok fields := by
  by_cases hp : plen = 8
  case neg => rw [parserAnswer, if_pos hp, if_pos (.inl hp)]
  subst hp
  by_cases hspec : pay[0].toNat / 32 = 4 <;> simp [parserAnswer, Config.csAbort, hspec]

/-- Settles O32: the shared parser asked for the specifier of an abort. -/
theorem sdopAbortReadsTheFields : Obligations.SdopAbortReadsTheFields := by
  intro s plen pay
  rw [exec_sdopAbort .client, expect_eq_parserAnswer, parserAnswer_csAbort, parseAbort_eq]
  rfl

/-! ### `SDO.IDENT` (R145, R146) -/

/-- What `SDO.IDENT` answers where the kind it finds is `found`. -/
def identAnswer : Option Kind → Response
  | some k => .ok (.kindOnly k)
  | none => .raised .malformedSdo

theorem exec_sdoIdent_eight (dir : Sender) (pay : Payload) (s : State) :
    exec (.sdoIdent dir 8 pay) s = .next (s.withResponse (identAnswer (identKind s.csMap dir pay[0]))) := by
  rw [exec_sdoIdent, if_neg (by decide)]
  cases identKind s.csMap dir pay[0] <;> rfl

theorem identAnswer_eq_ok_iff (found : Option Kind) (k : Kind) :
    identAnswer found = .ok (.kindOnly k) ↔ found = some k := by
  cases found <;> simp [identAnswer]

theorem delivers_withResponse_iff (s : State) (r q : Response) :
    Delivers (.next (s.withResponse r)) s q ↔ r = q := by
  constructor
  · intro h
    exact Option.some.inj (congrArg responseOf h)
  · rintro rfl
    rfl

/-- Settles O28: the kind that is found is the one of `identKind_iff`. -/
theorem sdoIdentFindsTheKind : Obligations.SdoIdentFindsTheKind := by
  intro s dir pay hm
  refine ⟨fun k => ?_, fun hnone => ?_, fun plen hp => ?_⟩
  · rw [exec_sdoIdent_eight, delivers_withResponse_iff, identAnswer_eq_ok_iff, identKind_iff _ hm]
  · have hfound : identKind s.csMap dir pay[0] = none := by
      refine Option.eq_none_iff_forall_ne_some.2 fun k hk => ?_
      obtain ⟨henv, hsent, hmatch⟩ := identKind_sound _ hm k dir _ hk
      exact Bool.false_ne_true ((hnone k henv hsent).symm.trans hmatch)
    rw [exec_sdoIdent_eight, hfound]
    rfl
  · rw [exec_sdoIdent, if_pos ((badPlen_iff plen).2 hp)]
    rfl

/-- Settles O30: both answer the kind exactly when byte 0 has its pattern. -/
theorem sdoIdentAgreesWithTheParsers : Obligations.SdoIdentAgreesWithTheParsers := by
  intro s dir pay k hm _ hk hsent
  rw [exec_sdoIdent_eight, responseOf_next, State.withResponse_response, Option.some.injEq, identAnswer_eq_ok_iff,
    identKind_iff _ hm, parseOp_delivers_kind_iff hm]
  exact ⟨fun ⟨_, _, hmatch⟩ => hmatch, fun hmatch => ⟨hk, hsent, hmatch⟩⟩

/-! ### `SDO.IDENT` under the default map (R146) -/

/-- The kinds of a client's command byte, as R146 lists them. -/
def defaultClientKind (b : Nat) : Option Kind :=
  if b ≤ 0x1F then some .dlSegC
  else if b ≤ 0x3F then some .dlInitC
  else if b ≤ 0x5F then some .ulInitC
  else if b ≤ 0x7F then some .ulSegC
  else if b ≤ 0x9F then some .abort
  else if b ≤ 0xBF then
    if b % 4 = 0 then some .bulInitC
    else if b % 4 = 1 then some .bulEndC
    else if b % 4 = 2 then some .bulAckC
    else some .bulStartC
  else if b ≤ 0xDF then
    if b % 2 = 0 then some .bdlInitC
    else if b % 4 = 1 then some .bdlEndC
    else none
  else none

/-- The kinds of a server's command byte, as R146 lists them. -/
def defaultServerKind (b : Nat) : Option Kind :=
  if b ≤ 0x1F then some .ulSegS
  else if b ≤ 0x3F then some .dlSegS
  else if b ≤ 0x5F then some .ulInitS
  else if b ≤ 0x7F then some .dlInitS
  else if b ≤ 0x9F then some .abort
  else if b ≤ 0xBF then
    if b % 4 = 0 then some .bdlInitS
    else if b % 4 = 1 then some .bdlEndS
    else if b % 4 = 2 then some .bdlAckS
    else none
  else if b ≤ 0xDF then
    if b % 2 = 0 then some .bulInitS
    else if b % 4 = 1 then some .bulEndS
    else none
  else none

/-- The table of 256 bytes, checked byte by byte. -/
theorem identKind_default_client (b0 : Byte) :
    identKind CsMap.default .client b0 = defaultClientKind b0.toNat := by
  revert b0; decide +kernel

theorem identKind_default_server (b0 : Byte) :
    identKind CsMap.default .server b0 = defaultServerKind b0.toNat := by
  revert b0; decide +kernel

/-- Settles O29: the kind that is found is the table's, and the answer follows from it row by row. -/
theorem sdoIdentDefaultTable : Obligations.SdoIdentDefaultTable := by
  rintro s pay b hm rfl
  rw [exec_sdoIdent_eight, exec_sdoIdent_eight, hm, identKind_default_client, identKind_default_server,
    delivers_withResponse_iff, delivers_withResponse_iff]
  simp only [defaultClientKind, defaultServerKind, apply_ite identAnswer]
  exact ⟨rfl, rfl⟩

end Sys2Proof.Machine
end

section
/-! PROOFS. Builders and parsers together (42_sdo_common.md R150). For each shape of message, the payload that is built
has the command byte of its kind and the fields that are read from it are the operands; a payload with the command
byte of a kind is read by the parser of the kind. -/

namespace Sys2Proof.Machine

/-! ### Fields of a command byte that was built (30_encoding.md R76 to R78) -/

theorem initByte_s (cs : BitVec 3) (n : BitVec 2) (e s : Bool) : (cs ++ initLow n e s).getLsbD 0 = s := by
  revert cs n e s; decide

theorem initByte_e (cs : BitVec 3) (n : BitVec 2) (e s : Bool) : (cs ++ initLow n e s).getLsbD 1 = e := by
  revert cs n e s; decide

theorem initByte_n (cs : BitVec 3) (n : BitVec 2) (e s : Bool) : initN (cs ++ initLow n e s) = n := by
  revert cs n e s; decide

theorem segByte_t (cs : BitVec 3) (t : Bool) (n : BitVec 3) (c : Bool) : (cs ++ segLow t n c).getLsbD 4 = t := by
  revert cs t n c; decide

theorem segByte_c (cs : BitVec 3) (t : Bool) (n : BitVec 3) (c : Bool) : (cs ++ segLow t n c).getLsbD 0 = c := by
  revert cs t n c; decide

theorem segByte_n (cs : BitVec 3) (t : Bool) (n : BitVec 3) (c : Bool) : segN (cs ++ segLow t n c) = n := by
  revert cs t n c; decide

theorem blkSizeByte_crcsup (cs : BitVec 3) (crcsup s : Bool) : (cs ++ blkSizeLow crcsup s).getLsbD 2 = crcsup := by
  revert cs crcsup s; decide

theorem blkSizeByte_s (cs : BitVec 3) (crcsup s : Bool) : (cs ++ blkSizeLow crcsup s).getLsbD 1 = s := by
  revert cs crcsup s; decide

theorem blkWindowByte_crcsup (cs : BitVec 3) (crcsup : Bool) : (cs ++ blkWindowLow crcsup).getLsbD 2 = crcsup := by
  revert cs crcsup; decide

theorem blkEndByte_n (cs n : BitVec 3) : endN (cs ++ blkEndLow n) = n := by
  revert cs n; decide

theorem subblkByte_c (c : Bool) (seqno : BitVec 7) : (BitVec.ofBool c ++ seqno).getLsbD 7 = c := by
  rw [BitVec.getLsbD_append]
  simp

theorem subblkByte_seqno (c : Bool) (seqno : BitVec 7) : seqField (BitVec.ofBool c ++ seqno) = seqno :=
  BitVec.extractLsb'_append_eq_right

/-! ### Unused counts (R71) -/

theorem initLen_initUnused {len : BitVec 4} (h : ¬(len.toNat < 1 ∨ 4 < len.toNat)) :
    initLen (initUnused len) = len := by
  revert len; decide

theorem segLen_segUnused {len : BitVec 4} (h : len.toNat ≤ 7) : segLen (segUnused len) = len := by
  revert len; decide

/-! ### The lanes of a payload that was built -/

/-- The lanes written, and behind them those that were there. -/
theorem putLanes_window {m n : Nat} (dst : Lanes n) (off cnt : Nat) (src : Lanes m) (i : Nat) (hi : i < m)
    (h : off + i < n) :
    (putLanes dst off cnt src)[off + i] = if i < cnt then src[i] else dst[off + i] := by
  rw [putLanes_getElem]
  by_cases hcnt : i < cnt <;> simp [hi, hcnt]

/-- As many lanes read as were written. -/
theorem lanesFrom_putLanes {m n : Nat} (dst : Lanes n) (off cnt : Nat) (src : Lanes m) (h : off + m ≤ n) (i : Nat)
    (hi : i < m) :
    (lanesFrom (putLanes dst off cnt src) off m cnt h)[i] = if i < cnt then src[i] else 0 := by
  rw [lanesFrom_getElem, putLanes_window _ _ _ _ _ hi]
  split <;> rfl

/-- A payload begins with a command byte, an index and a subindex. -/
def HasHeader (p : Payload) (b0 : Byte) (index : BitVec 16) (subidx : BitVec 8) : Prop :=
  p[0] = b0 ∧ le16 p 1 = index ∧ p[3] = subidx

theorem hasHeader_setAddr (cs : BitVec 3) (low5 : BitVec 5) (index : BitVec 16) (subidx : BitVec 8) :
    HasHeader (setAddr index subidx (setCmd cs low5 beginBuild)) (cs ++ low5) index subidx :=
  ⟨rfl, bytes_append_16 index, rfl⟩

/-- What is written behind the header leaves it. -/
theorem HasHeader.of_lanes {p q : Payload} {b0 : Byte} {index : BitVec 16} {subidx : BitVec 8}
    (h : HasHeader p b0 index subidx) (hq : ∀ i, (hi : i < 4) → q[i] = p[i]) : HasHeader q b0 index subidx := by
  obtain ⟨h0, hidx, hsub⟩ := h
  refine ⟨(hq 0 (by decide)).trans h0, ?_, (hq 3 (by decide)).trans hsub⟩
  rw [← hidx, le16, le16, hq 1 (by decide), hq 2 (by decide)]

theorem HasHeader.putLanes {p : Payload} {b0 : Byte} {index : BitVec 16} {subidx : BitVec 8} {m : Nat}
    (h : HasHeader p b0 index subidx) (cnt : Nat) (d : Lanes m) :
    HasHeader (putLanes p 4 cnt d) b0 index subidx :=
  h.of_lanes fun _ hi => putLanes_below _ _ _ _ _ _ hi

theorem HasHeader.put32 {p : Payload} {b0 : Byte} {index : BitVec 16} {subidx : BitVec 8}
    (h : HasHeader p b0 index subidx) (v : BitVec 32) : HasHeader (put32 p 4 v) b0 index subidx :=
  h.of_lanes fun _ hi => put32_other _ _ _ _ _ _ (.inl hi)

theorem HasHeader.set {p : Payload} {b0 : Byte} {index : BitVec 16} {subidx : BitVec 8}
    (h : HasHeader p b0 index subidx) (v : Byte) : HasHeader (p.set 4 v) b0 index subidx :=
  h.of_lanes fun _ hi => Vector.getElem_set_ne _ _ (by omega)

/-! ### Initiates and segments: parse of build -/

theorem parseAbort_built (index : BitVec 16) (subidx : BitVec 8) (code : BitVec 32) :
    parseAbort (put32 (setAddr index subidx (setCmd Config.csAbort 0 beginBuild)) 4 code) =
      .abort index subidx code := by
  obtain ⟨-, hidx, hsub⟩ := (hasHeader_setAddr Config.csAbort 0 index subidx).put32 code
  rw [parseAbort, hidx, hsub, le32_put32]

theorem parseInitPlain_built {cs : BitVec 3} {index : BitVec 16} {subidx : BitVec 8} {p : Payload}
    (h : buildInitPlain cs index subidx = .ok (.payload p)) :
    p[0] = cs ++ 0#5 ∧ ∀ k, parseInitPlain k p = .initPlain k index subidx := by
  cases h
  obtain ⟨h0, hidx, hsub⟩ := hasHeader_setAddr cs 0 index subidx
  exact ⟨h0, fun k => by rw [parseInitPlain, hidx, hsub]⟩

theorem parseSegPlain_built {cs : BitVec 3} {t : Bool} {p : Payload} (h : buildSegPlain cs t = .ok (.payload p)) :
    p[0] = cs ++ segLow t 0 false ∧ ∀ k, parseSegPlain k p = .segPlain k t := by
  cases h
  exact ⟨setCmd_zero .., fun k => by rw [parseSegPlain, setCmd_zero, segByte_t]⟩

/-- The fields `f` are the operands of an initiate that may carry data: with `e` = 1 the data lanes count, all four
of them where `s` = 0, and with `e` = 0 the size where `s` = 1 (43_sdo_expedited_segmented.md R171, R172). -/
def InitDataAgrees (index : BitVec 16) (subidx : BitVec 8) (e si : Bool) (len : BitVec 4) (d : Lanes 4)
    (size : BitVec 32) (f : InitData) : Prop :=
  f.index = index ∧ f.subidx = subidx ∧ f.e = e ∧ f.s = si ∧
    (e = true → si = true → f.len = len) ∧
    (e = true → ∀ i : Fin 4, f.d[i] = if i.val < len.toNat ∨ si = false then d[i] else 0) ∧
    (e = false → si = true → f.size = size)

/-- What `parse_init_data` reads behind a command byte `B0-INIT`. -/
theorem parseInitData_fields {p : Payload} {cs : BitVec 3} {n : BitVec 2} {e s : Bool} {index : BitVec 16}
    {subidx : BitVec 8} (h : HasHeader p (cs ++ initLow n e s) index subidx) :
    ∃ f : InitData, (∀ k, parseInitData k p = .initData k f) ∧
      f.index = index ∧ f.subidx = subidx ∧ f.e = e ∧ f.s = s ∧
      f.len = (if e then (if s then initLen n else 4) else 0) ∧
      f.d = lanesFrom p 4 4 f.len.toNat ∧ f.size = (if !e && s then le32 p 4 else 0) := by
  obtain ⟨h0, hidx, hsub⟩ := h
  have hs : p[0].getLsbD 0 = s := h0 ▸ initByte_s cs n e s
  have he : p[0].getLsbD 1 = e := h0 ▸ initByte_e cs n e s
  have hn : initN p[0] = n := h0 ▸ initByte_n cs n e s
  exact ⟨_, fun _ => rfl, hidx, hsub, he, hs, by rw [he, hs, hn], rfl, by rw [he, hs]⟩

/-- `e` = 1: the lanes written are the lanes that count. -/
theorem parseInitData_expedited {cs : BitVec 3} {index : BitVec 16} {subidx : BitVec 8} {si : Bool} {len : BitVec 4}
    {d : Lanes 4} {size : BitVec 32} {p : Payload} (hlen : si = true → ¬(len.toNat < 1 ∨ 4 < len.toNat))
    (hp : p = putLanes
      (setAddr index subidx (setCmd cs (initLow (if si then initUnused len else 0) true si) beginBuild)) 4
      (if si then len.toNat else 4) d) :
    ∃ (n : BitVec 2) (f : InitData), p[0] = cs ++ initLow n true si ∧ (∀ k, parseInitData k p = .initData k f) ∧
      InitDataAgrees index subidx true si len d size f := by
  have hhead : HasHeader p _ index subidx := hp ▸ (hasHeader_setAddr cs _ index subidx).putLanes _ d
  obtain ⟨f, hparse, hidx, hsub, he, hs, hflen, hfd, -⟩ := parseInitData_fields hhead
  have hsized : si = true → f.len = len := by
    rintro rfl
    exact hflen.trans (initLen_initUnused (hlen rfl))
  have hcount : f.len.toNat = if si then len.toNat else 4 := by
    cases si
    case false => exact congrArg BitVec.toNat hflen
    case true => exact congrArg BitVec.toNat (hsized rfl)
  obtain ⟨h0, -, -⟩ := hhead
  refine ⟨_, f, h0, hparse, hidx, hsub, he, hs, fun _ => hsized, fun _ i => ?_, nofun⟩
  rw [Fin.getElem_fin, Fin.getElem_fin, hfd, hcount, hp, lanesFrom_putLanes]
  cases si <;> simp

/-- `e` = 0: the size, where one is indicated. -/
theorem parseInitData_plain {cs : BitVec 3} {index : BitVec 16} {subidx : BitVec 8} {si : Bool} {len : BitVec 4}
    {d : Lanes 4} {size : BitVec 32} {p : Payload}
    (hp : p = if si then put32 (setAddr index subidx (setCmd cs (initLow 0 false si) beginBuild)) 4 size
      else setAddr index subidx (setCmd cs (initLow 0 false si) beginBuild)) :
    ∃ (n : BitVec 2) (f : InitData), p[0] = cs ++ initLow n false si ∧ (∀ k, parseInitData k p = .initData k f) ∧
      InitDataAgrees index subidx false si len d size f := by
  have hplain := hasHeader_setAddr cs (initLow 0 false si) index subidx
  have hhead : HasHeader p (cs ++ initLow 0 false si) index subidx := by
    cases si
    case false => exact hp ▸ hplain
    case true => exact hp ▸ hplain.put32 size
  obtain ⟨f, hparse, hidx, hsub, he, hs, -, -, hfsize⟩ := parseInitData_fields hhead
  obtain ⟨h0, -, -⟩ := hhead
  refine ⟨_, f, h0, hparse, hidx, hsub, he, hs, nofun, nofun, ?_⟩
  rintro - rfl
  exact hfsize.trans (hp ▸ le32_put32 _ _ _ (by decide))

theorem parseInitData_built {cs : BitVec 3} {index : BitVec 16} {subidx : BitVec 8} {e si : Bool} {len : BitVec 4}
    {d : Lanes 4} {size : BitVec 32} {p : Payload}
    (h : buildInitData cs index subidx e si len d size = .ok (.payload p)) :
    ∃ (n : BitVec 2) (f : InitData), p[0] = cs ++ initLow n e si ∧ (∀ k, parseInitData k p = .initData k f) ∧
      InitDataAgrees index subidx e si len d size f := by
  have hlen : ¬(e = true ∧ si = true ∧ (len.toNat < 1 ∨ 4 < len.toNat)) := by
    intro hbad
    rw [buildInitData_bad _ _ _ _ _ _ _ _ hbad] at h
    cases h
  rw [buildInitData_good _ _ _ _ _ _ _ _ hlen] at h
  have hp := (Results.payload.inj (Response.ok.inj h)).symm
  cases e
  case true => exact parseInitData_expedited (fun hs hbad => hlen ⟨rfl, hs, hbad⟩) hp
  case false => exact parseInitData_plain hp

/-- The fields `f` are the operands of a segment with data (R175, R176). -/
def SegDataAgrees (t c : Bool) (len : BitVec 4) (d : Lanes 7) (f : SegData) : Prop :=
  f.t = t ∧ f.c = c ∧ f.len = len ∧ ∀ i : Fin 7, f.d[i] = if i.val < len.toNat then d[i] else 0

/-- What `parse_seg_data` reads behind a command byte `B0-SEG`. -/
theorem parseSegData_fields {p : Payload} {cs : BitVec 3} {t : Bool} {n : BitVec 3} {c : Bool}
    (h0 : p[0] = cs ++ segLow t n c) :
    ∃ f : SegData, (∀ k, parseSegData k p = .segData k f) ∧
      f.t = t ∧ f.c = c ∧ f.len = segLen n ∧ f.d = lanesFrom p 1 7 f.len.toNat := by
  have ht : p[0].getLsbD 4 = t := h0 ▸ segByte_t cs t n c
  have hc : p[0].getLsbD 0 = c := h0 ▸ segByte_c cs t n c
  have hn : segN p[0] = n := h0 ▸ segByte_n cs t n c
  exact ⟨_, fun _ => rfl, ht, hc, congrArg segLen hn, rfl⟩

theorem parseSegData_built {cs : BitVec 3} {t c : Bool} {len : BitVec 4} {d : Lanes 7} {p : Payload}
    (h : buildSegData cs t c len d = .ok (.payload p)) :
    ∃ (n : BitVec 3) (f : SegData), p[0] = cs ++ segLow t n c ∧ (∀ k, parseSegData k p = .segData k f) ∧
      SegDataAgrees t c len d f := by
  obtain hlen | hlen := Nat.lt_or_ge 7 len.toNat
  · rw [buildSegData_bad _ _ _ _ _ hlen] at h
    cases h
  rw [buildSegData_good _ _ _ _ _ hlen] at h
  have hp := (Results.payload.inj (Response.ok.inj h)).symm
  have h0 : p[0] = cs ++ segLow t (segUnused len) c := hp ▸ putLanes_below _ _ _ _ _ _ (by decide)
  obtain ⟨f, hparse, ht, hc, hflen, hfd⟩ := parseSegData_fields h0
  have hsame : f.len = len := hflen.trans (segLen_segUnused hlen)
  refine ⟨_, f, h0, hparse, ht, hc, hsame, fun i => ?_⟩
  rw [Fin.getElem_fin, Fin.getElem_fin, hfd, hsame, hp, lanesFrom_putLanes]

/-! ### The transfer messages (kinds 0 and 2 to 9) -/

/-- A payload whose command byte was built for a kind is read by the parser of the kind, whatever the state. -/
theorem delivers_parseOp_of_built {m : CsMap} (hm : m.Wf) {s : State} (hs : s.csMap = m) {k : Kind} {cs : BitVec 3}
    {low : BitVec 5} {p : Payload} {r : Results} (hcs : kindCs m k = some cs) (h0 : p[0] = cs ++ low)
    (hlow : low &&& (kindLowPattern m k).1 = (kindLowPattern m k).2) (hr : kindFields p k = r) :
    Delivers (exec (parseOp 8 p k) s) s (.ok r) := by
  subst hs hr
  refine exec_parseOp_of_matchesKind hm ?_
  simp only [matchesKind, hcs, h0, cmdSpec_append, BitVec.setWidth_append_eq_right, hlow, BEq.rfl, Bool.and_self]

/-- Settles O48, shape by shape. -/
theorem transferPayloadsRoundTrip : Obligations.TransferPayloadsRoundTrip := by
  intro s s' index subidx e si t c len d4 d7 size code p hm hs
  refine ⟨?abort, ?dlInitC, ?ulInitS, ?dlInitS, ?ulInitC, ?dlSegC, ?ulSegS, ?dlSegS, ?ulSegC⟩
  case abort =>
    intro h
    obtain rfl := Results.payload.inj (Response.ok.inj (Option.some.inj h))
    exact delivers_parseOp_of_built hm hs (k := .abort) rfl rfl BitVec.and_zero (parseAbort_built index subidx code)
  case dlInitC =>
    intro h
    obtain ⟨n, f, h0, hparse, hf⟩ := parseInitData_built (Option.some.inj h)
    exact ⟨f, delivers_parseOp_of_built hm hs (k := .dlInitC) rfl h0 BitVec.and_zero (hparse _), hf⟩
  case ulInitS =>
    intro h
    obtain ⟨n, f, h0, hparse, hf⟩ := parseInitData_built (Option.some.inj h)
    exact ⟨f, delivers_parseOp_of_built hm hs (k := .ulInitS) rfl h0 BitVec.and_zero (hparse _), hf⟩
  case dlInitS =>
    intro h
    obtain ⟨h0, hparse⟩ := parseInitPlain_built (Option.some.inj h)
    exact delivers_parseOp_of_built hm hs (k := .dlInitS) rfl h0 BitVec.zero_and (hparse _)
  case ulInitC =>
    intro h
    obtain ⟨h0, hparse⟩ := parseInitPlain_built (Option.some.inj h)
    exact delivers_parseOp_of_built hm hs (k := .ulInitC) rfl h0 BitVec.zero_and (hparse _)
  case dlSegC =>
    intro h
    obtain ⟨n, f, h0, hparse, hf⟩ := parseSegData_built (Option.some.inj h)
    exact ⟨f, delivers_parseOp_of_built hm hs (k := .dlSegC) rfl h0 BitVec.and_zero (hparse _), hf⟩
  case ulSegS =>
    intro h
    obtain ⟨n, f, h0, hparse, hf⟩ := parseSegData_built (Option.some.inj h)
    exact ⟨f, delivers_parseOp_of_built hm hs (k := .ulSegS) rfl h0 BitVec.and_zero (hparse _), hf⟩
  case dlSegS =>
    intro h
    obtain ⟨h0, hparse⟩ := parseSegPlain_built (Option.some.inj h)
    exact delivers_parseOp_of_built hm hs (k := .dlSegS) rfl h0 BitVec.and_zero (hparse _)
  case ulSegC =>
    intro h
    obtain ⟨h0, hparse⟩ := parseSegPlain_built (Option.some.inj h)
    exact delivers_parseOp_of_built hm hs (k := .ulSegC) rfl h0 BitVec.and_zero (hparse _)

end Sys2Proof.Machine
end

section
/-! PROOFS. Builders and parsers together (42_sdo_common.md R150), for the sub-block and the block messages
(44_sdo_block.md). -/

namespace Sys2Proof.Machine

/-! ### The bits that name a block message (30_encoding.md R75, R78) -/

theorem blkSizeLow_and_one (crcsup s : Bool) : blkSizeLow crcsup s &&& 1 = 0 := by
  revert crcsup s; decide

theorem blkWindowLow_and_three (crcsup : Bool) : blkWindowLow crcsup &&& 3 = 0 := by
  revert crcsup; decide

theorem blkEndLow_and_three (n : BitVec 3) : blkEndLow n &&& 3 = 1 := by
  revert n; decide

theorem blkLow_and_three (sub : BitVec 2) : blkLow sub &&& 3 = 0#3 ++ sub := by
  revert sub; decide

/-! ### The sub-block: parse of build (R220, R221) -/

/-- Where `SDOB.SUBBLK` completes its operands are in range, and this is what it builds. -/
theorem sdobSubblk_delivers_payload {c : Bool} {seqno : BitVec 7} {len : BitVec 4} {d : Lanes 7} {s : State}
    {p : Payload} (h : responseOf (exec (.sdobSubblk c seqno len d) s) = some (.ok (.payload p))) :
    seqno ≠ 0 ∧ len.toNat ≤ 7 ∧ p = putLanes (beginBuild.set 0 (BitVec.ofBool c ++ seqno)) 1 len.toNat d := by
  simp only [exec, execSdobSubblk] at h
  split at h
  case isTrue => cases h
  case isFalse hgood =>
    simp only [Bool.or_eq_true, beq_iff_eq, badSegLen_iff, not_or, Nat.not_lt] at hgood
    obtain ⟨hseq, hlen⟩ := hgood
    exact ⟨hseq, hlen, (Results.payload.inj (Response.ok.inj (Option.some.inj h))).symm⟩

/-- All seven lanes are read; those the builder did not write are 0. -/
theorem parseSubblk_built {c : Bool} {seqno : BitVec 7} {len : BitVec 4} {d : Lanes 7} {p : Payload}
    (hp : p = putLanes (beginBuild.set 0 (BitVec.ofBool c ++ seqno)) 1 len.toNat d) :
    p[0] = BitVec.ofBool c ++ seqno ∧ ∃ d' : Lanes 7, parseSubblk p = .subblk c seqno d' ∧
      ∀ i : Fin 7, d'[i] = if i.val < len.toNat then d[i] else 0 := by
  have h0 : p[0] = BitVec.ofBool c ++ seqno := by
    rw [hp, putLanes_below _ _ _ _ _ _ (by decide), Vector.getElem_set_self]
  refine ⟨h0, lanesFrom p 1 7 7, by rw [parseSubblk, h0, subblkByte_c, subblkByte_seqno], fun i => ?_⟩
  have hzero : (beginBuild.set 0 (BitVec.ofBool c ++ seqno))[1 + i.val] = 0 := by
    rw [Vector.getElem_set_ne _ _ (by omega), beginBuild, zeroLanes_getElem]
  rw [Fin.getElem_fin, Fin.getElem_fin, lanesFrom_getElem, if_pos i.isLt, hp, putLanes_window _ _ _ _ _ i.isLt, hzero]

/-! ### The block envelopes: parse of build -/

theorem parseBlkInitSize_built {cs : BitVec 3} {index : BitVec 16} {subidx : BitVec 8} {crcsup si : Bool}
    {size : BitVec 32} {p : Payload} (h : buildBlkInitSize cs index subidx crcsup si size = .ok (.payload p)) :
    p[0] = cs ++ blkSizeLow crcsup si ∧
      ∀ k, parseBlkInitSize k p = .blkInitSize k index subidx crcsup si (if si then size else 0) := by
  have hp := (Results.payload.inj (Response.ok.inj h)).symm
  have hplain := hasHeader_setAddr cs (blkSizeLow crcsup si) index subidx
  have hhead : HasHeader p (cs ++ blkSizeLow crcsup si) index subidx := by
    cases si
    case false => exact hp ▸ hplain
    case true => exact hp ▸ hplain.put32 size
  obtain ⟨h0, hidx, hsub⟩ := hhead
  refine ⟨h0, fun k => ?_⟩
  rw [parseBlkInitSize, hidx, hsub, h0, blkSizeByte_crcsup, blkSizeByte_s]
  cases si
  case false => rfl
  case true => rw [hp, if_pos rfl, if_pos rfl, if_pos rfl, le32_put32]

theorem parseBlkInitWindow_built {cs : BitVec 3} {index : BitVec 16} {subidx : BitVec 8} {crcsup : Bool}
    {blksize : BitVec 8} {p : Payload} (h : buildBlkInitWindow cs index subidx crcsup blksize = .ok (.payload p)) :
    p[0] = cs ++ blkWindowLow crcsup ∧
      ∀ k, parseBlkInitWindow k p = .blkInitWindow k index subidx crcsup blksize := by
  cases h
  obtain ⟨h0, hidx, hsub⟩ := (hasHeader_setAddr cs (blkWindowLow crcsup) index subidx).set blksize
  refine ⟨h0, fun k => ?_⟩
  rw [parseBlkInitWindow, hidx, hsub, h0, blkWindowByte_crcsup, Vector.getElem_set_self]

theorem parseBlkAck_built {cs : BitVec 3} {ackseq blksize : BitVec 8} {p : Payload}
    (h : buildBlkAck cs ackseq blksize = .ok (.payload p)) :
    p[0] = cs ++ blkLow Config.subResponse ∧ ∀ k, parseBlkAck k p = .blkAck k ackseq blksize := by
  cases h
  exact ⟨rfl, fun _ => rfl⟩

theorem parseBlkEnd_built {cs n : BitVec 3} {crc : BitVec 16} {p : Payload}
    (h : buildBlkEnd cs n crc = .ok (.payload p)) :
    p[0] = cs ++ blkEndLow n ∧ ∀ k, parseBlkEnd k p = .blkEnd k n crc := by
  cases h
  have h0 : (put16 (setCmd cs (blkEndLow n) beginBuild) 1 crc)[0] = cs ++ blkEndLow n := rfl
  exact ⟨h0, fun k => by rw [parseBlkEnd, h0, blkEndByte_n, le16_put16]⟩

theorem buildBlkPlain_zero {cs : BitVec 3} {sub : BitVec 2} {p : Payload}
    (h : buildBlkPlain cs sub = .ok (.payload p)) : p[0] = cs ++ blkLow sub := by
  cases h
  exact setCmd_zero ..

/-! ### The block messages (kinds 1 and 10 to 20) -/

theorem delivers_sdopSubblk_of_seqno {s : State} (hm : s.csMap.Wf) {c : Bool} {seqno : BitVec 7} {p : Payload}
    (h0 : p[0] = BitVec.ofBool c ++ seqno) (hseq : seqno ≠ 0) :
    Delivers (exec (.sdopSubblk 8 p) s) s (.ok (parseSubblk p)) := by
  refine exec_parseOp_of_matchesKind hm (k := .subblk) ((matchesKind_subblk_iff _ _).2 ?_)
  rwa [h0, subblkByte_seqno]

/-- Settles O49, shape by shape. -/
theorem blockPayloadsRoundTrip : Obligations.BlockPayloadsRoundTrip := by
  intro s s' index subidx crcsup si c seqno len d size ackseq blksize n crc p hm hs
  refine ⟨?subblk, ?bdlInitC, ?bulInitS, ?bdlInitS, ?bulInitC, ?bdlAckS, ?bulAckC, ?bdlEndC, ?bulEndS, ?bdlEndS,
    ?bulEndC, ?bulStartC⟩
  case subblk =>
    intro h
    obtain ⟨hseq, -, hp⟩ := sdobSubblk_delivers_payload h
    obtain ⟨h0, d', hparse, hd⟩ := parseSubblk_built hp
    exact ⟨d', hparse ▸ delivers_sdopSubblk_of_seqno (hs ▸ hm) h0 hseq, hd⟩
  case bdlInitC =>
    intro h
    obtain ⟨h0, hparse⟩ := parseBlkInitSize_built (Option.some.inj h)
    exact delivers_parseOp_of_built hm hs (k := .bdlInitC) rfl h0 (blkSizeLow_and_one ..) (hparse _)
  case bulInitS =>
    intro h
    obtain ⟨h0, hparse⟩ := parseBlkInitSize_built (Option.some.inj h)
    exact delivers_parseOp_of_built hm hs (k := .bulInitS) rfl h0 (blkSizeLow_and_one ..) (hparse _)
  case bdlInitS =>
    intro h
    obtain ⟨h0, hparse⟩ := parseBlkInitWindow_built (Option.some.inj h)
    exact delivers_parseOp_of_built hm hs (k := .bdlInitS) rfl h0 (blkWindowLow_and_three _) (hparse _)
  case bulInitC =>
    intro h
    obtain ⟨h0, hparse⟩ := parseBlkInitWindow_built (Option.some.inj h)
    exact delivers_parseOp_of_built hm hs (k := .bulInitC) rfl h0 (blkWindowLow_and_three _) (hparse _)
  case bdlAckS =>
    intro h
    obtain ⟨h0, hparse⟩ := parseBlkAck_built (Option.some.inj h)
    exact delivers_parseOp_of_built hm hs (k := .bdlAckS) rfl h0 (blkLow_and_three _) (hparse _)
  case bulAckC =>
    intro h
    obtain ⟨h0, hparse⟩ := parseBlkAck_built (Option.some.inj h)
    exact delivers_parseOp_of_built hm hs (k := .bulAckC) rfl h0 (blkLow_and_three _) (hparse _)
  case bdlEndC =>
    intro h
    obtain ⟨h0, hparse⟩ := parseBlkEnd_built (Option.some.inj h)
    exact delivers_parseOp_of_built hm hs (k := .bdlEndC) rfl h0 (blkEndLow_and_three n) (hparse _)
  case bulEndS =>
    intro h
    obtain ⟨h0, hparse⟩ := parseBlkEnd_built (Option.some.inj h)
    exact delivers_parseOp_of_built hm hs (k := .bulEndS) rfl h0 (blkEndLow_and_three n) (hparse _)
  case bdlEndS =>
    intro h
    have h0 := buildBlkPlain_zero (Option.some.inj h)
    exact delivers_parseOp_of_built hm hs (k := .bdlEndS) rfl h0 (blkLow_and_three _) rfl
  case bulEndC =>
    intro h
    have h0 := buildBlkPlain_zero (Option.some.inj h)
    exact delivers_parseOp_of_built hm hs (k := .bulEndC) rfl h0 (blkLow_and_three _) rfl
  case bulStartC =>
    intro h
    have h0 := buildBlkPlain_zero (Option.some.inj h)
    exact delivers_parseOp_of_built hm hs (k := .bulStartC) rfl h0 (blkLow_and_three _) rfl

end Sys2Proof.Machine
end

section
/-! PROOFS. Expedited and segmented transfer (43_sdo_expedited_segmented.md): the eight bytes that the builders of
initiates and segments deliver (R171, R173, R175, R177) and the fields that their parsers read (R172, R174, R176,
R178). -/

namespace Sys2Proof.Machine

/-! ### The command byte as a number (30_encoding.md R64, R76, R77) -/

/-- The command specifier stands above the five low bits. -/
theorem append_eq_cmdByte (cs : BitVec 3) (low5 : BitVec 5) : cs ++ low5 = cmdByte cs low5.toNat := by
  apply BitVec.eq_of_toNat_eq
  rw [cmdByte, BitVec.toNat_append, ← Nat.shiftLeft_add_eq_or_of_lt low5.isLt, Nat.shiftLeft_eq, BitVec.toNat_ofNat]
  omega

theorem initLow_toNat (n : BitVec 2) (e s : Bool) :
    (initLow n e s).toNat = n.toNat * 4 + e.toNat * 2 + s.toNat := by
  revert n e s; decide

theorem segLow_toNat (t : Bool) (n : BitVec 3) (c : Bool) :
    (segLow t n c).toNat = t.toNat * 16 + n.toNat * 2 + c.toNat := by
  revert t n c; decide

theorem initUnused_toNat {len : BitVec 4} (h : ¬(len.toNat < 1 ∨ 4 < len.toNat)) :
    (initUnused len).toNat = 4 - len.toNat := by
  revert len; decide

theorem segUnused_toNat {len : BitVec 4} (h : len.toNat ≤ 7) : (segUnused len).toNat = 7 - len.toNat := by
  revert len; decide

theorem initByte_eq_cmdByte {e si : Bool} {len : BitVec 4}
    (h : ¬(e = true ∧ si = true ∧ (len.toNat < 1 ∨ 4 < len.toNat))) (cs : BitVec 3) :
    cs ++ initLow (if e && si then initUnused len else 0) e si =
      cmdByte cs ((if e ∧ si then (4 - len.toNat) * 4 else 0) + e.toNat * 2 + si.toNat) := by
  rw [append_eq_cmdByte, initLow_toNat]
  by_cases hes : e = true ∧ si = true
  case pos =>
    obtain ⟨rfl, rfl⟩ := hes
    have hlen : ¬(len.toNat < 1 ∨ 4 < len.toNat) := fun hbad => h ⟨rfl, rfl, hbad⟩
    simp [initUnused_toNat hlen]
  case neg => simp [hes]

theorem segByte_eq_cmdByte {len : BitVec 4} (h : len.toNat ≤ 7) (cs : BitVec 3) (t c : Bool) :
    cs ++ segLow t (segUnused len) c = cmdByte cs (t.toNat * 16 + (7 - len.toNat) * 2 + c.toNat) := by
  rw [append_eq_cmdByte, segLow_toNat, segUnused_toNat h]

theorem initPlainByte_eq_cmdByte (cs : BitVec 3) : cs ++ 0#5 = cmdByte cs 0 := append_eq_cmdByte cs 0

theorem segPlainByte_eq_cmdByte (cs : BitVec 3) (t : Bool) :
    cs ++ segLow t 0 false = cmdByte cs (t.toNat * 16) := by
  rw [append_eq_cmdByte, segLow_toNat]
  rfl

/-! ### Writing behind the command byte -/

/-- What is written from lane `off` on does not touch a lane below it. -/
theorem putLanes_set_of_lt {m n : Nat} (dst : Lanes n) (off cnt : Nat) (src : Lanes m) (i : Nat) (hi : i < n)
    (v : Byte) (h : i < off) : putLanes (dst.set i v) off cnt src = (putLanes dst off cnt src).set i v := by
  ext1 j hj
  simp only [putLanes_getElem, Vector.getElem_set]
  by_cases hij : i = j
  · rw [dif_neg (by omega), if_pos hij, if_pos hij]
  · rw [if_neg hij, if_neg hij]

theorem put32_set_of_lt {n : Nat} (b : Lanes n) (o : Nat) (w : BitVec 32) (ho : o + 3 < n) (i : Nat) (hi : i < n)
    (v : Byte) (h : i < o) : put32 (b.set i v) o w ho = (put32 b o w ho).set i v := by
  ext1 j hj
  by_cases hij : i = j
  · subst hij
    rw [put32_other _ _ _ _ _ _ (.inl h), Vector.getElem_set_self, Vector.getElem_set_self]
  · simp [put32, Vector.getElem_set, hij]

/-- Byte `i` of a little-endian word. -/
theorem put32_window {n : Nat} (b : Lanes n) (o : Nat) (w : BitVec 32) (ho : o + 3 < n) (i : Fin 4) :
    (put32 b o w ho)[o + i.val] = w.extractLsb' (8 * i.val) 8 := by
  fin_cases i <;> simp [put32]

/-! ### The initiate with data is built (R171) -/

/-- Lanes 1 to 7 of an initiate with data, behind an empty command byte. -/
def initBody (index : BitVec 16) (subidx : BitVec 8) (e si : Bool) (len : BitVec 4) (d : Lanes 4)
    (size : BitVec 32) : Payload :=
  if e then putLanes (setAddr index subidx beginBuild) 4 (if si then len.toNat else 4) d
  else if si then put32 (setAddr index subidx beginBuild) 4 size
  else setAddr index subidx beginBuild

/-- The command specifier enters byte 0 and no other lane. -/
theorem buildInitData_eq_initBody {e si : Bool} {len : BitVec 4}
    (h : ¬(e = true ∧ si = true ∧ (len.toNat < 1 ∨ 4 < len.toNat))) (cs : BitVec 3) (index : BitVec 16)
    (subidx : BitVec 8) (d : Lanes 4) (size : BitVec 32) :
    buildInitData cs index subidx e si len d size = .ok (.payload ((initBody index subidx e si len d size).set 0
      (cs ++ initLow (if e && si then initUnused len else 0) e si))) := by
  rw [buildInitData_good cs index subidx e si len d size h]
  refine congrArg (Response.ok <| Results.payload ·) ?_
  cases e
  case true => exact putLanes_set_of_lt _ _ _ _ _ _ _ (by decide)
  case false =>
    cases si
    case true => exact put32_set_of_lt _ _ _ (by decide) _ _ _ (by decide)
    case false => rfl

/-- Data and size stand behind the index and the subindex. -/
theorem initBody_of_lt (index : BitVec 16) (subidx : BitVec 8) (e si : Bool) (len : BitVec 4) (d : Lanes 4)
    (size : BitVec 32) (i : Nat) (hi : i < 4) :
    (initBody index subidx e si len d size)[i] = (setAddr index subidx beginBuild)[i] := by
  cases e
  case true => exact putLanes_below _ _ _ _ _ _ hi
  case false =>
    cases si
    case true => exact put32_other _ _ _ (by decide) _ _ (.inl hi)
    case false => rfl

theorem initBody_data (index : BitVec 16) (subidx : BitVec 8) (e si : Bool) (len : BitVec 4) (d : Lanes 4)
    (size : BitVec 32) (i : Fin 4) :
    (initBody index subidx e si len d size)[4 + i.val] =
      if e then (if i.val < len.toNat ∨ si = false then d[i] else 0)
      else if si then size.extractLsb' (8 * i.val) 8 else 0 := by
  have hzero : (setAddr index subidx beginBuild)[4 + i.val] = 0 := by
    fin_cases i <;> rfl
  cases e
  case true =>
    simp only [initBody, if_true]
    rw [putLanes_window _ _ _ _ _ i.isLt, hzero]
    cases si <;> simp
  case false =>
    cases si
    case true => exact put32_window _ _ _ (by decide) i
    case false => exact hzero

/-! ### The segment with data is built (R175) -/

/-- Lanes 1 to 7 of a segment with data, behind an empty command byte. -/
def segBody (len : BitVec 4) (d : Lanes 7) : Payload := putLanes beginBuild 1 len.toNat d

theorem buildSegData_eq_segBody {len : BitVec 4} (h : len.toNat ≤ 7) (cs : BitVec 3) (t c : Bool) (d : Lanes 7) :
    buildSegData cs t c len d =
      .ok (.payload ((segBody len d).set 0 (cs ++ segLow t (segUnused len) c))) := by
  rw [buildSegData_good cs t c len d h, segBody, ← putLanes_set_of_lt _ _ _ _ _ _ _ (by decide)]
  rfl

theorem segBody_data (len : BitVec 4) (d : Lanes 7) (i : Fin 7) :
    (segBody len d)[1 + i.val] = if i.val < len.toNat then d[i] else 0 := by
  rw [segBody, putLanes_window _ _ _ _ _ i.isLt, beginBuild, zeroLanes_getElem]
  rfl

/-! ### The parsers of a kind without a subcommand (42_sdo_common.md R142) -/

theorem delivers_parserAnswer {s : State} (k : Kind) {cs : BitVec 3} (plen : BitVec 4) (pay : Payload)
    (hcs : kindCs s.csMap k = some cs) (hsub : kindSub s.csMap k = none) :
    Delivers (exec (parseOp plen pay k) s) s (parserAnswer cs true plen pay (kindFields pay k)) := by
  rw [exec_parseOp plen pay hcs, hsub, expect_eq_parserAnswer]
  rfl

theorem initN_toNat (b0 : Byte) : (initN b0).toNat = b0.toNat / 4 % 4 := by
  rw [initN, BitVec.extractLsb'_toNat, Nat.shiftRight_eq_div_pow]

theorem segN_toNat (b0 : Byte) : (segN b0).toNat = b0.toNat / 2 % 8 := by
  rw [segN, BitVec.extractLsb'_toNat, Nat.shiftRight_eq_div_pow]

theorem initLen_toNat (n : BitVec 2) : (initLen n).toNat = 4 - n.toNat := by
  revert n; decide

theorem segLen_toNat (n : BitVec 3) : (segLen n).toNat = 7 - n.toNat := by
  revert n; decide

/-- The fields that `parse_init_data` reads from any payload, the same for both kinds (R172). -/
theorem parseInitData_reads (pay : Payload) :
    ∃ f : InitData, (∀ k, parseInitData k pay = .initData k f) ∧
      f.s = pay[0].getLsbD 0 ∧ f.e = pay[0].getLsbD 1 ∧ f.n.toNat = pay[0].toNat / 4 % 4 ∧
      f.index = pay[2] ++ pay[1] ∧ f.subidx = pay[3] ∧
      f.len.toNat = (if f.e then (if f.s then 4 - f.n.toNat else 4) else 0) ∧
      (∀ i : Fin 4, f.d[i] = if i.val < f.len.toNat then pay[4 + i.val] else 0) ∧
      f.size = if f.e = false ∧ f.s = true then pay[7] ++ pay[6] ++ pay[5] ++ pay[4] else 0 := by
  have hn : ((initN pay[0]).setWidth 3).toNat = (initN pay[0]).toNat := BitVec.toNat_setWidth_of_le (by decide)
  refine ⟨_, fun _ => rfl, rfl, rfl, hn.trans (initN_toNat _), rfl, rfl, ?len, ?data, ?size⟩
  case len =>
    simp only [hn, apply_ite BitVec.toNat, initLen_toNat]
    rfl
  case data => exact fun i => lanesFrom_getElem pay 4 4 _ (by decide) i.val i.isLt
  case size =>
    simp only [Bool.and_eq_true, Bool.not_eq_true']
    rfl

/-- The fields that `parse_seg_data` reads from any payload, the same for both kinds (R176). -/
theorem parseSegData_reads (pay : Payload) :
    ∃ f : SegData, (∀ k, parseSegData k pay = .segData k f) ∧
      f.c = pay[0].getLsbD 0 ∧ f.t = pay[0].getLsbD 4 ∧ f.n.toNat = pay[0].toNat / 2 % 8 ∧
      f.len.toNat = 7 - f.n.toNat ∧ ∀ i : Fin 7, f.d[i] = if i.val < f.len.toNat then pay[1 + i.val] else 0 :=
  ⟨_, fun _ => rfl, rfl, rfl, segN_toNat _, segLen_toNat _,
    fun i => lanesFrom_getElem pay 1 7 _ (by decide) i.val i.isLt⟩

/-! ### The obligations -/

/-- Settles O35: both kinds have one body behind their command bytes. -/
theorem initiateWithDataIsBuilt : Obligations.InitiateWithDataIsBuilt := by
  intro s index subidx e si len d size
  rw [show len.toNat = 0 ↔ len.toNat < 1 from Nat.lt_one_iff.symm]
  refine ⟨fun hbad => ?_, fun hgood => ?_⟩
  · have hraise (cs : BitVec 3) := buildInitData_bad cs index subidx e si len d size hbad
    exact ⟨congrArg (deliver · s) (hraise _), congrArg (deliver · s) (hraise _)⟩
  · have hbuild (cs : BitVec 3) := buildInitData_eq_initBody hgood cs index subidx d size
    have hhead := initBody_of_lt index subidx e si len d size
    refine ⟨_, _, congrArg (deliver · s) (hbuild _), congrArg (deliver · s) (hbuild _), ?_, ?_, ?_, ?_, ?_,
      fun i => ?_, fun i => ?_⟩
    · exact (Vector.getElem_set_self _).trans (initByte_eq_cmdByte hgood _)
    · exact (Vector.getElem_set_self _).trans (initByte_eq_cmdByte hgood _)
    · exact (Vector.getElem_set_ne _ _ (by decide)).trans (hhead 1 (by decide))
    · exact (Vector.getElem_set_ne _ _ (by decide)).trans (hhead 2 (by decide))
    · exact (Vector.getElem_set_ne _ _ (by decide)).trans (hhead 3 (by decide))
    · rw [Vector.getElem_set_ne _ _ (by omega), initBody_data]
    · rw [Vector.getElem_set_ne _ _ (by omega), Vector.getElem_set_ne _ _ (by omega)]

/-- Settles O37: both kinds have one body behind their command bytes. -/
theorem segmentWithDataIsBuilt : Obligations.SegmentWithDataIsBuilt := by
  intro s t c len d
  refine ⟨fun hbad => ?_, fun hgood => ?_⟩
  · have hraise (cs : BitVec 3) := buildSegData_bad cs t c len d hbad
    exact ⟨congrArg (deliver · s) (hraise _), congrArg (deliver · s) (hraise _)⟩
  · have hbuild (cs : BitVec 3) := buildSegData_eq_segBody hgood cs t c d
    refine ⟨_, _, congrArg (deliver · s) (hbuild _), congrArg (deliver · s) (hbuild _), ?_, ?_, fun i => ⟨?_, ?_⟩⟩
    · exact (Vector.getElem_set_self _).trans (segByte_eq_cmdByte hgood _ t c)
    · exact (Vector.getElem_set_self _).trans (segByte_eq_cmdByte hgood _ t c)
    · rw [Vector.getElem_set_ne _ _ (by omega), segBody_data]
    · rw [Vector.getElem_set_ne _ _ (by omega), Vector.getElem_set_ne _ _ (by omega)]

/-- Settles O36: the payloads of `build_init_plain` and `build_seg_plain`, their command bytes as numbers. -/
theorem plainInitiateAndSegmentAreBuilt : Obligations.PlainInitiateAndSegmentAreBuilt := by
  intro s index subidx t
  simp only [← segPlainByte_eq_cmdByte, ← initPlainByte_eq_cmdByte]
  exact ⟨rfl, rfl, rfl, rfl⟩

/-- Settles O42: the fields of the payload, answered by the parser of either kind. -/
theorem initiateWithDataIsParsed : Obligations.InitiateWithDataIsParsed := by
  intro s plen pay
  obtain ⟨f, hparse, hfields⟩ := parseInitData_reads pay
  exact ⟨f, hparse .dlInitC ▸ delivers_parserAnswer .dlInitC plen pay rfl rfl,
    hparse .ulInitS ▸ delivers_parserAnswer .ulInitS plen pay rfl rfl, hfields⟩

/-- Settles O44: the fields of the payload, answered by the parser of either kind. -/
theorem segmentWithDataIsParsed : Obligations.SegmentWithDataIsParsed := by
  intro s plen pay
  obtain ⟨f, hparse, hfields⟩ := parseSegData_reads pay
  exact ⟨f, hparse .dlSegC ▸ delivers_parserAnswer .dlSegC plen pay rfl rfl,
    hparse .ulSegS ▸ delivers_parserAnswer .ulSegS plen pay rfl rfl, hfields⟩

/-- Settles O43: `parse_init_plain` and `parse_seg_plain` under the parser of each kind. -/
theorem plainInitiateAndSegmentAreParsed : Obligations.PlainInitiateAndSegmentAreParsed := fun _ plen pay =>
  ⟨delivers_parserAnswer .dlInitS plen pay rfl rfl, delivers_parserAnswer .ulInitC plen pay rfl rfl,
    delivers_parserAnswer .dlSegS plen pay rfl rfl, delivers_parserAnswer .ulSegC plen pay rfl rfl⟩

end Sys2Proof.Machine
end

section
/-! PROOFS. Block transfer (44_sdo_block.md): the eight bytes that the builders of the sub-block and of the block
messages deliver and what their parsers answer (R220 to R243). -/

namespace Sys2Proof.Machine

/-! ### The sub-block is built (R220) -/

/-- Byte 0 of a sub-block is not a command byte: `c` stands above the sequence number (30_encoding.md R79). -/
theorem subblkByte_toNat (c : Bool) (seqno : BitVec 7) :
    (BitVec.ofBool c ++ seqno).toNat = c.toNat * 128 + seqno.toNat := by
  rw [BitVec.toNat_append, ← Nat.shiftLeft_add_eq_or_of_lt seqno.isLt, Nat.shiftLeft_eq, BitVec.toNat_ofBool]

theorem badSubblk_iff (seqno : BitVec 7) (len : BitVec 4) :
    (seqno == 0 || badSegLen len) = true ↔ seqno = 0 ∨ 7 < len.toNat := by
  rw [Bool.or_eq_true, beq_iff_eq, badSegLen_iff]

theorem exec_sdobSubblk_bad {seqno : BitVec 7} {len : BitVec 4} (h : seqno = 0 ∨ 7 < len.toNat) (c : Bool)
    (d : Lanes 7) (s : State) :
    exec (.sdobSubblk c seqno len d) s = .next (s.withResponse (.raised .badOperand)) :=
  if_pos ((badSubblk_iff seqno len).2 h)

/-- The data lanes are those of a segment. -/
theorem exec_sdobSubblk_good {seqno : BitVec 7} {len : BitVec 4} (hseq : seqno ≠ 0) (hlen : len.toNat ≤ 7) (c : Bool)
    (d : Lanes 7) (s : State) :
    exec (.sdobSubblk c seqno len d) s =
      .next (s.withResponse (.ok (.payload ((segBody len d).set 0 (BitVec.ofBool c ++ seqno))))) := by
  rw [segBody, ← putLanes_set_of_lt _ _ _ _ _ _ _ (by decide)]
  exact if_neg (mt (badSubblk_iff seqno len).1 (not_or.2 ⟨hseq, hlen.not_gt⟩))

/-! ### The sub-block is parsed (R221) -/

theorem seqField_toNat (b0 : Byte) : (seqField b0).toNat = b0.toNat % 128 := by
  rw [seqField, BitVec.extractLsb'_toNat, Nat.shiftRight_zero]

theorem seqField_ne_zero_iff (b0 : Byte) : seqField b0 ≠ 0 ↔ b0.toNat % 128 ≠ 0 := by
  rw [ne_eq, ← BitVec.toNat_inj, seqField_toNat]
  rfl

/-- The flag `c` and the sequence number cover byte 0. -/
theorem ofBool_append_seqField (b0 : Byte) : BitVec.ofBool (b0.getLsbD 7) ++ seqField b0 = b0 := by
  rw [ofBool_getLsbD, seqField, BitVec.extractLsb'_append_extractLsb'_eq_extractLsb' (start₂ := 7) (start₁ := 0) rfl]
  exact BitVec.extractLsb'_eq_self

theorem expectSubblk_of_zero {plen : BitVec 4} {pay : Payload} (h : pay[0] = 0) :
    expectSubblk plen pay = .raised .malformedSdo := by
  have hseq : seqField pay[0] = 0 := by rw [h]; rfl
  obtain hr | ⟨-, hab, -⟩ | ⟨-, -, hne, -⟩ := expectSubblk_cases plen pay
  · exact hr
  · exact absurd (h.symm.trans hab) (by decide)
  · exact absurd hseq hne

/-- All seven lanes are read as they stand. -/
theorem parseSubblk_reads (pay : Payload) :
    ∃ (c : Bool) (seqno : BitVec 7) (d : Lanes 7), parseSubblk pay = .subblk c seqno d ∧
      c.toNat * 128 + seqno.toNat = pay[0].toNat ∧ ∀ i : Fin 7, d[i] = pay[1 + i.val] := by
  refine ⟨_, _, _, rfl, ?byte0, fun i => ?data⟩
  case byte0 => rw [← subblkByte_toNat, ofBool_append_seqField]
  case data => exact (lanesFrom_getElem pay 1 7 7 (by decide) i.val i.isLt).trans (if_pos i.isLt)

/-! ### The block messages are built (R222 to R242): command bytes as numbers (30_encoding.md R78) -/

theorem blkSizeLow_toNat (crcsup s : Bool) : (blkSizeLow crcsup s).toNat = crcsup.toNat * 4 + s.toNat * 2 := by
  revert crcsup s; decide

theorem blkWindowLow_toNat (crcsup : Bool) : (blkWindowLow crcsup).toNat = crcsup.toNat * 4 := by
  revert crcsup; decide

theorem blkEndLow_toNat (n : BitVec 3) : (blkEndLow n).toNat = n.toNat * 4 + 1 := by
  revert n; decide

theorem blkLow_toNat (sub : BitVec 2) : (blkLow sub).toNat = sub.toNat := by
  revert sub; decide

theorem buildBlkInitSize_eq_cmdByte (cs : BitVec 3) (index : BitVec 16) (subidx : BitVec 8) (crcsup si : Bool)
    (size : BitVec 32) :
    buildBlkInitSize cs index subidx crcsup si size = .ok (.payload #v[cmdByte cs (crcsup.toNat * 4 + si.toNat * 2),
      index.extractLsb' 0 8, index.extractLsb' 8 8, subidx,
      if si then size.extractLsb' 0 8 else 0, if si then size.extractLsb' 8 8 else 0,
      if si then size.extractLsb' 16 8 else 0, if si then size.extractLsb' 24 8 else 0]) := by
  rw [buildBlkInitSize_eq, append_eq_cmdByte, blkSizeLow_toNat]

theorem buildBlkInitWindow_eq_cmdByte (cs : BitVec 3) (index : BitVec 16) (subidx : BitVec 8) (crcsup : Bool)
    (blksize : BitVec 8) :
    buildBlkInitWindow cs index subidx crcsup blksize = .ok (.payload #v[cmdByte cs (crcsup.toNat * 4),
      index.extractLsb' 0 8, index.extractLsb' 8 8, subidx, blksize, 0, 0, 0]) := by
  rw [buildBlkInitWindow_eq, append_eq_cmdByte, blkWindowLow_toNat]

theorem buildBlkAck_eq_cmdByte (cs : BitVec 3) (ackseq blksize : BitVec 8) :
    buildBlkAck cs ackseq blksize =
      .ok (.payload #v[cmdByte cs Config.subResponse.toNat, ackseq, blksize, 0, 0, 0, 0, 0]) := by
  rw [buildBlkAck_eq, append_eq_cmdByte, blkLow_toNat]

theorem buildBlkEnd_eq_cmdByte (cs n : BitVec 3) (crc : BitVec 16) :
    buildBlkEnd cs n crc = .ok (.payload #v[cmdByte cs (n.toNat * 4 + 1),
      crc.extractLsb' 0 8, crc.extractLsb' 8 8, 0, 0, 0, 0, 0]) := by
  rw [buildBlkEnd_eq, append_eq_cmdByte, blkEndLow_toNat]

theorem buildBlkPlain_eq_cmdByte (cs : BitVec 3) (sub : BitVec 2) :
    buildBlkPlain cs sub = .ok (.payload #v[cmdByte cs sub.toNat, 0, 0, 0, 0, 0, 0, 0]) := by
  rw [buildBlkPlain_eq, append_eq_cmdByte, blkLow_toNat]

/-! ### The block messages are parsed (R223 to R243): the subcommand as a number (30_encoding.md R66) -/

/-- Where bit 1 may be `s`, only bit 0 of the subcommand is tested. -/
theorem lowOne_eq_toNat (b0 : Byte) : ((b0.setWidth 5 &&& (1 : BitVec 5)) == 0) = (b0.toNat % 2 == 0) := by
  rw [low_mask_one, BitVec.getLsbD, Nat.testBit_zero]
  obtain h | h := Nat.mod_two_eq_zero_or_one b0.toNat <;> rw [h] <;> rfl

theorem lowTwo_eq_toNat (b0 : Byte) (sub : BitVec 2) :
    ((b0.setWidth 5 &&& (3 : BitVec 5)) == 0#3 ++ sub) = (b0.toNat % 4 == sub.toNat) := by
  rw [low_mask_three, ← subField_toNat, Bool.eq_iff_iff, beq_iff_eq, beq_iff_eq, BitVec.toNat_inj]

/-- The parser of a kind with a subcommand: the test of the low bits is the one of the pattern of R75. -/
theorem delivers_parserAnswer_of_lowPattern {s : State} (hm : s.csMap.Wf) (k : Kind) {cs : BitVec 3} {sub : BitVec 2}
    {rightSub : Bool} (plen : BitVec 4) (pay : Payload) (hcs : kindCs s.csMap k = some cs)
    (hsub : kindSub s.csMap k = some sub)
    (hlow : ((pay[0].setWidth 5 &&& (kindLowPattern s.csMap k).1) == (kindLowPattern s.csMap k).2) = rightSub) :
    Delivers (exec (parseOp plen pay k) s) s (parserAnswer cs rightSub plen pay (kindFields pay k)) := by
  have htest : (blkSub s.csMap (kindSender k) cs pay[0] == sub) = rightSub := by
    rw [← hlow, Bool.eq_iff_iff, beq_iff_eq, lowPattern_iff hm hcs, hsub]
    simp only [Option.some.injEq, forall_eq']
  rw [exec_parseOp plen pay hcs, hsub, expect_eq_parserAnswer, ← htest]
  rfl

theorem endN_eq_ofNat (b0 : Byte) : endN b0 = BitVec.ofNat 3 (b0.toNat / 4 % 8) := by
  apply BitVec.eq_of_toNat_eq
  rw [endN, BitVec.extractLsb'_toNat, Nat.shiftRight_eq_div_pow, BitVec.toNat_ofNat, Nat.mod_mod]

/-! ### The obligations -/

/-- Settles O38: behind byte 0 stand the lanes of a segment. -/
theorem subblockIsBuilt : Obligations.SubblockIsBuilt := by
  intro s c seqno len d
  refine ⟨fun hbad => exec_sdobSubblk_bad hbad c d s, fun ⟨hseq, hlen⟩ => ?_⟩
  refine ⟨_, exec_sdobSubblk_good hseq hlen c d s, ?byte0, fun i => ?data⟩
  case byte0 => rw [Vector.getElem_set_self, subblkByte_toNat]
  case data => rw [Vector.getElem_set_ne _ _ (by omega), segBody_data]

/-- Settles O45: the three answers of `SDOP.SUBBLK`. -/
theorem subblockIsParsed : Obligations.SubblockIsParsed := by
  intro s plen pay
  refine ⟨?malformed, ?abort, ?subblock⟩
  case malformed =>
    rintro (hp | h0)
    · exact congrArg (deliver · s) (expectSubblk_of_short hp)
    · exact congrArg (deliver · s) (expectSubblk_of_zero h0)
  case abort =>
    rintro ⟨rfl, hab⟩
    exact congrArg (deliver · s) (expectSubblk_of_abort hab)
  case subblock =>
    rintro ⟨rfl, hseq⟩
    obtain ⟨c, seqno, d, hparse, hfields⟩ := parseSubblk_reads pay
    exact ⟨c, seqno, d,
      hparse ▸ congrArg (deliver · s) (expectSubblk_of_seqField ((seqField_ne_zero_iff _).2 hseq)), hfields⟩

/-- Settles O46: the fields of either shape, under the subcommand test of each kind. -/
theorem blockInitiatesAreParsed : Obligations.BlockInitiatesAreParsed := fun _ plen pay hm =>
  ⟨delivers_parserAnswer_of_lowPattern hm .bdlInitC plen pay rfl rfl (lowOne_eq_toNat pay[0]),
    delivers_parserAnswer_of_lowPattern hm .bulInitS plen pay rfl rfl (lowOne_eq_toNat pay[0]),
    delivers_parserAnswer_of_lowPattern hm .bdlInitS plen pay rfl rfl (lowTwo_eq_toNat pay[0] Config.subInitiate),
    delivers_parserAnswer_of_lowPattern hm .bulInitC plen pay rfl rfl (lowTwo_eq_toNat pay[0] Config.subInitiate)⟩

/-- Settles O47: the fields of each shape, under the subcommand test of each kind. -/
theorem otherBlockMessagesAreParsed : Obligations.OtherBlockMessagesAreParsed := by
  intro s plen pay hm
  have hresponse := lowTwo_eq_toNat pay[0] Config.subResponse
  have hend := lowTwo_eq_toNat pay[0] Config.subEnd
  have hstart := lowTwo_eq_toNat pay[0] s.csMap.subStart
  simp only [← endN_eq_ofNat]
  exact ⟨delivers_parserAnswer_of_lowPattern hm .bdlAckS plen pay rfl rfl hresponse,
    delivers_parserAnswer_of_lowPattern hm .bulAckC plen pay rfl rfl hresponse,
    delivers_parserAnswer_of_lowPattern hm .bdlEndC plen pay rfl rfl hend,
    delivers_parserAnswer_of_lowPattern hm .bulEndS plen pay rfl rfl hend,
    delivers_parserAnswer_of_lowPattern hm .bdlEndS plen pay rfl rfl hend,
    delivers_parserAnswer_of_lowPattern hm .bulEndC plen pay rfl rfl hend,
    delivers_parserAnswer_of_lowPattern hm .bulStartC plen pay rfl rfl hstart⟩

/-- Settles O39: either shape of initiate, for download and upload. -/
theorem blockInitiatesAreBuilt : Obligations.BlockInitiatesAreBuilt :=
  fun s index subidx crcsup si size blksize =>
    ⟨congrArg (deliver · s) (buildBlkInitSize_eq_cmdByte _ index subidx crcsup si size),
      congrArg (deliver · s) (buildBlkInitSize_eq_cmdByte _ index subidx crcsup si size),
      congrArg (deliver · s) (buildBlkInitWindow_eq_cmdByte _ index subidx crcsup blksize),
      congrArg (deliver · s) (buildBlkInitWindow_eq_cmdByte _ index subidx crcsup blksize)⟩

/-- Settles O40: block-response and block-end, for download and upload. -/
theorem blockResponsesAndEndsAreBuilt : Obligations.BlockResponsesAndEndsAreBuilt :=
  fun s ackseq blksize n crc =>
    ⟨congrArg (deliver · s) (buildBlkAck_eq_cmdByte _ ackseq blksize),
      congrArg (deliver · s) (buildBlkAck_eq_cmdByte _ ackseq blksize),
      congrArg (deliver · s) (buildBlkEnd_eq_cmdByte _ n crc),
      congrArg (deliver · s) (buildBlkEnd_eq_cmdByte _ n crc)⟩

/-- Settles O41: a command byte and zeros, under the subcommand of each kind. -/
theorem endResponsesAndStartAreBuilt : Obligations.EndResponsesAndStartAreBuilt := fun s =>
  ⟨congrArg (deliver · s) (buildBlkPlain_eq_cmdByte _ Config.subEnd),
    congrArg (deliver · s) (buildBlkPlain_eq_cmdByte _ Config.subEnd),
    congrArg (deliver · s) (buildBlkPlain_eq_cmdByte _ s.csMap.subStart)⟩

end Sys2Proof.Machine
end

section
/-! PROOFS. CRC (45_crc16.md): the byte step is linear over exclusive-or, so one equation splits it into a shift by a
byte and a value of the table (R263, R264); from it the residue of a checksum (R271). The four operations (R265 to
R268) and the run of a list of updates (R269). -/

namespace Sys2Proof.Machine

/-! ### The byte step (R261) -/

/-- A shift with its reduction is linear over exclusive-or. -/
theorem crcShift_xor (a b : BitVec 16) : crcShift (a ^^^ b) = crcShift a ^^^ crcShift b := by
  simp only [crcShift, BitVec.getLsbD_xor, BitVec.shiftLeft_xor_distrib]
  cases a.getLsbD 15 <;> cases b.getLsbD 15 <;> simp [BitVec.xor_assoc, BitVec.xor_comm Config.crcPoly]

theorem crcShifts_xor (k : Nat) (a b : BitVec 16) : crcShifts k (a ^^^ b) = crcShifts k a ^^^ crcShifts k b := by
  induction k generalizing a b with
  | zero => rfl
  | succ k ih => simp only [crcShifts, crcShift_xor, ih]

/-- As long as no bit leaves at the top nothing is reduced. -/
theorem crcShifts_of_lt (k : Nat) (acc : BitVec 16) (h : acc.toNat * 2 ^ k < 2 ^ 16) :
    crcShifts k acc = acc <<< k := by
  induction k generalizing acc with
  | zero => exact (BitVec.shiftLeft_zero acc).symm
  | succ k ih =>
    have hpow : acc.toNat * 2 * 2 ^ k < 2 ^ 16 := by rwa [Nat.mul_assoc, ← Nat.pow_succ']
    have hdouble : acc.toNat * 2 < 2 ^ 16 := (Nat.le_mul_of_pos_right _ (Nat.two_pow_pos k)).trans_lt hpow
    have htop : acc.getLsbD 15 = false := Nat.testBit_lt_two_pow (by omega)
    have hshift : (acc <<< 1).toNat = acc.toNat * 2 := by
      rw [BitVec.toNat_shiftLeft, Nat.shiftLeft_eq, Nat.mod_eq_of_lt hdouble]
    have hstep : crcShift acc = acc <<< 1 := if_neg (htop ▸ Bool.false_ne_true)
    rw [crcShifts, hstep, ih _ (hshift ▸ hpow), ← BitVec.shiftLeft_add, Nat.add_comm]

/-- The byte meets the high byte of the accumulator; the low byte stands beside them. -/
theorem xor_byte_eq_high_xor_low (acc : BitVec 16) (b : Byte) :
    acc ^^^ (b.setWidth 16 <<< 8) =
      (0 ^^^ ((acc.extractLsb' 8 8 ^^^ b).setWidth 16 <<< 8)) ^^^ (acc.setWidth 8).setWidth 16 := by
  ext i hi
  by_cases hlow : i < 8
  · simp [hlow, BitVec.getLsbD_eq_getElem hi]
  · have hhigh : i - 8 < 8 := by omega
    simp [hlow, hhigh, Nat.add_sub_cancel' (not_lt.1 hlow), BitVec.getLsbD_eq_getElem hi]

theorem low_shiftLeft_eq (acc : BitVec 16) : (acc.setWidth 8).setWidth 16 <<< 8 = acc <<< 8 := by
  ext i hi
  have hlow : i - 8 < 8 := by omega
  have hlt : i - 8 < 16 := by omega
  simp [hlow, BitVec.getLsbD_eq_getElem hlt]

/-- The byte step in two parts: the low byte moves up, and the high byte with the byte fed in chooses what is added. -/
theorem crcByte_eq_shift_xor (acc : BitVec 16) (b : Byte) :
    crcByte acc b = (acc <<< 8) ^^^ crcByte 0 (acc.extractLsb' 8 8 ^^^ b) := by
  have hlow : ((acc.setWidth 8).setWidth 16).toNat * 2 ^ 8 < 2 ^ 16 := by
    rw [BitVec.toNat_setWidth_of_le (by decide)]
    have := (acc.setWidth 8).isLt
    omega
  rw [crcByte, xor_byte_eq_high_xor_low, crcShifts_xor, crcShifts_of_lt 8 _ hlow, low_shiftLeft_eq,
    BitVec.xor_comm]
  rfl

/-! ### The table (R263, R264) -/

theorem crcTable_length : crcTable.length = 256 := by decide +kernel

/-- The values that R263 lists, each computed by the shifts of R261. -/
theorem crcTable_getD (i : Fin 256) : crcTable.getD i.val 0 = crcByte 0 (BitVec.ofNat 8 i.val) := by
  revert i; decide +kernel

theorem crcTable_getD_toNat (b : Byte) : crcTable.getD b.toNat 0 = crcByte 0 b := by
  have h := crcTable_getD ⟨b.toNat, b.isLt⟩
  rwa [BitVec.ofNat_toNat, BitVec.setWidth_eq] at h

/-- Settles O54: the listed values are a finite check; the table step is the byte step in its two parts. -/
theorem tableStepEqualsBitStep : Obligations.TableStepEqualsBitStep := by
  refine ⟨crcTable_getD, crcTable_length, fun acc b => ?_⟩
  rw [crcByteTab, crcTable_getD_toNat, ← crcByte_eq_shift_xor]

/-! ### The residue (R271) and zero bytes (R266) -/

theorem crcByte_zero_zero : crcByte 0 0 = 0 := by decide

/-- A byte equal to the high byte of the accumulator cancels it. -/
theorem crcByte_of_eq_high {acc : BitVec 16} {b : Byte} (h : acc.extractLsb' 8 8 = b) :
    crcByte acc b = acc <<< 8 := by
  rw [crcByte_eq_shift_xor, h, BitVec.xor_self]
  exact (congrArg (acc <<< 8 ^^^ ·) crcByte_zero_zero).trans BitVec.xor_zero

theorem high_shiftLeft_eq_low (acc : BitVec 16) : (acc <<< 8).extractLsb' 8 8 = acc.extractLsb' 0 8 := by
  ext i hi
  have hlt : 8 + i < 16 := by omega
  have hlow : i < 16 := by omega
  simp [hlt, BitVec.getLsbD_eq_getElem hlow]

/-- Feeding an accumulator its own two bytes, the high one first, clears it. -/
theorem crcFrom_own_bytes (acc : BitVec 16) : crcFrom acc [acc.extractLsb' 8 8, acc.extractLsb' 0 8] = 0 := by
  calc crcFrom acc [acc.extractLsb' 8 8, acc.extractLsb' 0 8]
      = crcByte (crcByte acc (acc.extractLsb' 8 8)) (acc.extractLsb' 0 8) := rfl
    _ = crcByte (acc <<< 8) (acc.extractLsb' 0 8) := by rw [crcByte_of_eq_high rfl]
    _ = acc <<< 8 <<< 8 := crcByte_of_eq_high (high_shiftLeft_eq_low acc)
    _ = 0 := by rw [← BitVec.shiftLeft_add, BitVec.shiftLeft_eq_zero (by decide)]; rfl

theorem crcFrom_zero_replicate (n : Nat) : crcFrom 0 (List.replicate n 0) = 0 := by
  induction n with
  | zero => rfl
  | succ n ih =>
    calc crcFrom 0 (List.replicate (n + 1) 0)
        = crcFrom (crcByte 0 0) (List.replicate n 0) := rfl
      _ = 0 := by rw [crcByte_zero_zero, ih]

/-- Settles O57: the two bytes appended are the accumulator's own when they are fed. -/
theorem checksumResidueIsZero : Obligations.ChecksumResidueIsZero := by
  refine ⟨fun bytes => ?_, crcFrom_zero_replicate⟩
  rw [crcOf, crcFrom_append]
  exact crcFrom_own_bytes (crcOf bytes)

/-! ### The operations (R265 to R268) -/

/-- Settles O52: the two clauses of the update are the two outcomes of its length check. -/
theorem crcClrAndUpdWriteTheAccumulator : Obligations.CrcClrAndUpdWriteTheAccumulator :=
  fun s len dat => ⟨exec_crcClr s, exec_crcUpd_bad len dat s, exec_crcUpd_good len dat s⟩

/-- Settles O53: the comparison is the equality of the two values. -/
theorem crcRdAndChkReadTheAccumulator : Obligations.CrcRdAndChkReadTheAccumulator :=
  fun s crc => ⟨exec_crcRd s, exec_crcChk crc s⟩

/-! ### A list of updates (R269) -/

/-- The bytes that the updates feed, in order. -/
def fedBytes (groups : List (BitVec 4 × Lanes 8)) : List Byte := groups.flatMap fun g => g.2.toList.take g.1.toNat

theorem fedBytes_cons (g : BitVec 4 × Lanes 8) (gs : List (BitVec 4 × Lanes 8)) :
    fedBytes (g :: gs) = g.2.toList.take g.1.toNat ++ fedBytes gs := List.flatMap_cons

/-- Updates run to the end of the host's list continue the checksum from `CRCACC` over the bytes they feed. -/
theorem run_crcUpd_groups (groups : List (BitVec 4 × Lanes 8)) (s : State) (hlen : ∀ g ∈ groups, g.1.toNat ≤ 8)
    (hin : s.inputs = hostProgram (groups.map fun g => .crcUpd g.1 g.2)) :
    ∃ t : State, Host.Core.run core groups.length s = .next t ∧ t.crcacc = crcFrom s.crcacc (fedBytes groups) ∧
      t.inputs = [] ∧ t.csMap = s.csMap := by
  induction groups generalizing s with
  | nil => exact ⟨s, rfl, rfl, hin, rfl⟩
  | cons g gs ih =>
    obtain ⟨hg, hgs⟩ := List.forall_mem_cons.1 hlen
    have hupd := run_hostProgram_cons hin rfl (exec_crcUpd_good g.1 g.2 _ hg)
    rw [List.length_cons, List.length_map] at hupd
    rw [List.length_cons, hupd, fedBytes_cons, crcFrom_append]
    exact ih _ hgs rfl

/-- Settles O55: the updates start from the cleared accumulator. -/
theorem groupingOfUpdatesDoesNotMatter : Obligations.GroupingOfUpdatesDoesNotMatter := by
  intro s groups hlen hin
  have hclear := run_hostProgram_cons hin rfl (exec_crcClr _)
  rw [List.length_cons, List.length_map] at hclear
  rw [hclear]
  exact run_crcUpd_groups groups _ hlen rfl

end Sys2Proof.Machine
end

section
/-! PROOFS. The host around the block (49_host_sdo_engine.md): every request of the host is answered in one step (R306),
and what the inbound filter (R296) makes of the records that `TX.SDO` builds (30_encoding.md R96). -/

namespace Sys2Proof.Machine

/-! ### Every request is answered (R306) -/

/-- The two operations that write `CRCACC` deliver no result field. -/
theorem exec_of_writesCrcacc {i : Instr} (hw : WritesCrcacc i) (s : State) :
    ∃ v r, exec i s = .next ((s.withCrcacc v).withResponse r) ∧ (r = .ok .nothing ∨ r = .raised .badOperand) := by
  obtain rfl | ⟨len, dat, rfl⟩ := hw
  · exact ⟨_, _, exec_crcClr s, .inl rfl⟩
  · obtain h | h := Nat.lt_or_ge 8 len.toNat
    · exact ⟨s.crcacc, _, exec_crcUpd_bad len dat s h, .inr rfl⟩
    · exact ⟨_, _, exec_crcUpd_good len dat s h, .inl rfl⟩

/-- An instruction delivers a response and may write `CRCACC`; the map and the host's pending events stay. -/
theorem exec_eq_withCrcacc_withResponse (i : Instr) (s : State) :
    ∃ v r, exec i s = .next ((s.withCrcacc v).withResponse r) := by
  by_cases hw : WritesCrcacc i
  case neg =>
    obtain ⟨r, hr⟩ := exec_of_not_writesCrcacc i s hw
    exact ⟨s.crcacc, r, hr⟩
  case pos =>
    obtain ⟨v, r, hr, -⟩ := exec_of_writesCrcacc hw s
    exact ⟨v, r, hr⟩

/-- Settles O10: a request is run or rejected, and both deliver a response on the state without that request. -/
theorem everyRequestGetsAResponse : Obligations.EveryRequestGetsAResponse := by
  intro s w rest hin
  cases hd : decode s.csMap w with
  | ok i =>
    obtain ⟨v, r, hr⟩ := exec_eq_withCrcacc_withResponse i (s.withInputs rest)
    exact ⟨_, r, (step_of_decode_ok hin hd).trans hr, rfl, rfl, rfl⟩
  | error e => exact ⟨_, _, step_of_decode_error hin hd, rfl, rfl, rfl⟩

/-! ### Issuing one operation -/

theorem issueOp_of_exec {i : Instr} {s t : State} {r : Response} (h : exec i s = .next (t.withResponse r)) :
    issueOp i s = some (r, t.withResponse r) := by
  simp only [issueOp, h, State.withResponse_response, Option.map_some]

/-- An operation whose outcome delivers a response is answered with it when it is issued. -/
theorem issueOp_of_responseOf {i : Instr} {s : State} {r : Response} (h : responseOf (exec i s) = some r) :
    ∃ t, issueOp i s = some (r, t) := by
  obtain ⟨v, q, hq⟩ := exec_eq_withCrcacc_withResponse i s
  rw [hq, responseOf_next, State.withResponse_response, Option.some_inj] at h
  exact ⟨_, h ▸ issueOp_of_exec hq⟩

/-- An instruction that delivers a payload changes nothing but the response. -/
theorem exec_of_delivers_payload {b : Instr} {s : State} {p : Payload}
    (h : responseOf (exec b s) = some (.ok (.payload p))) : exec b s = .next (s.withResponse (.ok (.payload p))) := by
  by_cases hw : WritesCrcacc b
  case neg =>
    obtain ⟨r, hr⟩ := exec_of_not_writesCrcacc b s hw
    rw [hr, responseOf_next, State.withResponse_response, Option.some_inj] at h
    rw [hr, h]
  case pos =>
    obtain ⟨v, r, hr, rfl | rfl⟩ := exec_of_writesCrcacc hw s <;> rw [hr] at h <;> cases h

/-! ### `TX.SDO` (R96) -/

/-- The COB-ID that an SDO message travels on. -/
def sdoCobId (sender : Sender) (node : BitVec 8) : BitVec 11 :=
  cobOf ((sdoFunctionCode sender).setWidth 4) (node.setWidth 7)

/-- The frame that carries an SDO payload. -/
def sdoFrame (sender : Sender) (node : BitVec 8) (pay : Payload) : CanFrame :=
  ⟨(sdoCobId sender node).setWidth 29, false, false, false, 8, pay⟩

theorem validFrame_sdoFrame (sender : Sender) (node : BitVec 8) (pay : Payload) :
    ValidFrame (sdoFrame sender node pay) := Nat.le_refl 8

theorem cobMsg_sdoFunctionCode (sender : Sender) (node : BitVec 8) (pay : Payload) (s : State) :
    cobMsg (sdoFunctionCode sender) node 8 pay s =
      some (sdoFrame sender node pay, s.withResponse (.ok (.cobId (sdoCobId sender node)))) := rfl

/-- `TX.SDO` of a builder that completes is the record of the frame with its payload. -/
theorem txSdo_of_delivers_payload {b : Instr} {s : State} {p : Payload} (sender : Sender) (node : BitVec 8)
    (h : responseOf (exec b s) = some (.ok (.payload p))) :
    txSdo sender node b s = some (recordOf (sdoFrame sender node p),
      s.withResponse (.ok (.record (recordOf (sdoFrame sender node p))))) := by
  have hbuild := issueOp_of_exec (exec_of_delivers_payload h)
  have hencode := issueOp_of_exec (exec_encodeFrameOp_valid (validFrame_sdoFrame sender node p)
    (s.withResponse (.ok (.cobId (sdoCobId sender node)))))
  rw [encodeFrameOp] at hencode
  simp only [txSdo, hbuild, cobMsg_sdoFunctionCode, State.withResponse_withResponse, hencode]

/-! ### The inbound filter (R296) -/

/-- Frames with all eight lanes in use are the same only when they are equal. -/
theorem SameFrame.eq_of_full {f g : CanFrame} (h : SameFrame f g) (hf : f.dlc = 8) : f = g := by
  obtain ⟨farb, fext, frtr, ferr, fdlc, fdat⟩ := f
  obtain ⟨garb, gext, grtr, gerr, gdlc, gdat⟩ := g
  obtain ⟨rfl, rfl, rfl, rfl, rfl, hdat⟩ := h
  obtain rfl : fdlc = 8 := hf
  have hlanes : fdat = gdat := Vector.ext fun i hi => hdat ⟨i, hi⟩ hi
  rw [hlanes]

/-- What the filter decides of the record of a frame with all eight lanes in use: it goes by the class and the node. -/
theorem inbound_recordOf {f : CanFrame} (hf : f.dlc = 8) (node7 : BitVec 7) (k : Kind) (s : State) :
    inbound node7 k (recordOf f) s =
      if (classify f.arbId f.ext f.err).classifiable && (classify f.arbId f.ext f.err).cls == .sdoTx
          && (classify f.arbId f.ext f.err).node7 == node7 then
        inboundParse k f (s.withResponse (.ok (.classification (classify f.arbId f.ext f.err))))
      else some (.ignored, s.withResponse (.ok (.classification (classify f.arbId f.ext f.err)))) := by
  have hvalid : ValidFrame f := by rw [ValidFrame, hf]; decide
  have hdecode := issueOp_of_exec (exec_canfDec_wellFormed (wellFormedRecord_recordOf hvalid) s)
  rw [← (sameFrame_decodeRecord_recordOf hvalid).eq_of_full hf] at hdecode
  have hclassify := issueOp_of_exec (exec_cobClassify f.arbId f.ext f.rtr f.err (s.withResponse (.ok (.frame f))))
  simp only [inbound, hdecode, hclassify, State.withResponse_withResponse]

/-- An SDO message is classified by its sender's function code and its node. -/
theorem classify_sdoFrame (sender : Sender) (node : BitVec 8) (pay : Payload) :
    classify (sdoFrame sender node pay).arbId (sdoFrame sender node pay).ext (sdoFrame sender node pay).err =
      classificationOf (sdoCobId sender node) := by
  rw [sdoFrame, sdoCobId, classify_cobOf, classificationOf, cobFc_cobOf, cobNode_cobOf]

theorem classificationOf_sdoCobId_node7 (sender : Sender) (node : BitVec 8) :
    (classificationOf (sdoCobId sender node)).node7 = node.setWidth 7 := cobNode_cobOf _ _

theorem classificationOf_sdoCobId_server_cls (node : BitVec 8) :
    (classificationOf (sdoCobId .server node)).cls = .sdoTx := by
  rw [classificationOf, sdoCobId, cobFc_cobOf]
  rfl

theorem classificationOf_sdoCobId_client_cls (node : BitVec 8) :
    (classificationOf (sdoCobId .client node)).cls = .sdoRx := by
  rw [classificationOf, sdoCobId, cobFc_cobOf]
  rfl

/-- A server's message to the filter's own node comes to be parsed. -/
theorem inbound_server (node : BitVec 8) (pay : Payload) (k : Kind) (s : State) :
    ∃ q, inbound (node.setWidth 7) k (recordOf (sdoFrame .server node pay)) s =
      inboundParse k (sdoFrame .server node pay) (s.withResponse q) := by
  refine ⟨.ok (.classification (classificationOf (sdoCobId .server node))), ?_⟩
  rw [inbound_recordOf rfl, classify_sdoFrame, classificationOf_sdoCobId_server_cls, classificationOf_sdoCobId_node7]
  exact if_pos (by simp [classificationOf])

/-- A client's message is ignored, whichever node the filter is for. -/
theorem inbound_client (node : BitVec 8) (pay : Payload) (node7 : BitVec 7) (k : Kind) (s : State) :
    ∃ u, inbound node7 k (recordOf (sdoFrame .client node pay)) s = some (.ignored, u) := by
  refine ⟨s.withResponse (.ok (.classification (classificationOf (sdoCobId .client node)))), ?_⟩
  rw [inbound_recordOf rfl, classify_sdoFrame, classificationOf_sdoCobId_client_cls]
  exact if_neg (by simp)

/-- The filter goes on with what the parser of the expected kind delivers, unless that is an abort. -/
theorem inboundParse_advances {k : Kind} {f : CanFrame} {s : State} {res : Results}
    (h : responseOf (exec (parseOp f.dlc f.dat k) s) = some (.ok res)) (hne : resultKind res ≠ some .abort) :
    ∃ u, inboundParse k f s = some (.advance res, u) := by
  obtain ⟨u, hu⟩ := issueOp_of_responseOf h
  refine ⟨u, ?_⟩
  simp only [inboundParse, hu]
  cases res
  case abort => exact absurd rfl hne
  all_goals rfl

/-- Settles O50: the two senders' records differ in their function code, which alone decides whether the client's filter
comes to parse the payload; no operation of the way there changes what the parser reads. -/
theorem sentMessagePassesTheFilter : Obligations.SentMessagePassesTheFilter := by
  intro s node b p hb
  refine ⟨⟨_, _, txSdo_of_delivers_payload .server node hb, fun k res hres hne => ?server⟩,
    ⟨_, _, txSdo_of_delivers_payload .client node hb, fun k => inbound_client node p _ k _⟩⟩
  obtain ⟨q, hq⟩ := inbound_server node p k (s.withResponse (.ok (.record (recordOf (sdoFrame .server node p)))))
  rw [State.withResponse_withResponse] at hq
  have hparse : responseOf (exec (parseOp 8 p k) (s.withResponse q)) = some (.ok res) :=
    (congrArg responseOf (exec_withResponse (parseOp 8 p k) s q)).trans hres
  rw [hq]
  exact inboundParse_advances hparse hne

end Sys2Proof.Machine
end

section
/-! PROOFS. Decoder and encoder (30_encoding.md R75, R82, R84, R91): a `WIRE.SDO` row is one instruction per kind, its
encoding is the item of that kind, and the decoder recognises the item by the pattern of the kind; an operation is read
back by its selector. -/

namespace Sys2Proof.Machine

/-! ### The `WIRE.SDO` rows as one family over the kinds -/

@[simp] theorem wireKind_wireInstr (pay : Payload) (k : Kind) : (wireInstr pay k).wireKind = some (k, pay) := by
  cases k <;> rfl

/-- The row of a kind is the only instruction that stands for the kind. -/
theorem eq_wireInstr_of_wireKind {i : Instr} {k : Kind} {pay : Payload} (h : i.wireKind = some (k, pay)) :
    i = wireInstr pay k := by
  cases i <;> cases h <;> rfl

@[simp] theorem wellFormed_wireInstr (m : CsMap) (pay : Payload) (k : Kind) :
    (wireInstr pay k).wellFormed m = matchesKind m k pay[0] := by
  rw [Instr.wellFormed, wireKind_wireInstr]

/-- An operation is well formed whatever its operands hold. -/
theorem wellFormed_of_wireKind_none (m : CsMap) {i : Instr} (h : i.wireKind = none) : i.wellFormed m = true := by
  rw [Instr.wellFormed, h]

/-- Every row but the sub-block's is encoded as an envelope of a sender of its kind. -/
theorem encode_wireInstr (pay : Payload) {k : Kind} (hk : k ≠ .subblk) :
    encode (wireInstr pay k) = .envelope (kindSender k) pay := by
  cases k
  case subblk => exact absurd rfl hk
  all_goals rfl

theorem sentBy_kindSender (k : Kind) : sentBy k (kindSender k) = true := by
  cases k <;> rfl

/-! ### What the decoder reads from a wire item (R82, R84) -/

/-- An envelope is read as the row of the kind that is recognised. -/
theorem decodeEnvelope_eq_ok_iff (m : CsMap) (dir : Sender) (pay : Payload) (i : Instr) :
    decodeEnvelope m dir pay = .ok i ↔ ∃ k, identKind m dir pay[0] = some k ∧ wireInstr pay k = i := by
  unfold decodeEnvelope
  cases identKind m dir pay[0] <;> simp

theorem decodeSubblock_of_seqField {pay : Payload} (h : seqField pay[0] ≠ 0) :
    decodeSubblock pay = .ok (.wireSdoSubblk pay) := by
  simpa [decodeSubblock, ne_abortByte_of_seqField h] using h

theorem decodeSubblock_of_abort {pay : Payload} (h : pay[0] = abortByte) :
    decodeSubblock pay = .ok (.wireSdoAbort pay) := by
  simp [decodeSubblock, h]

theorem decodeSubblock_of_sequenceZero {pay : Payload} (hab : pay[0] ≠ abortByte) (hseq : seqField pay[0] = 0) :
    decodeSubblock pay = .error .sequenceZero := by
  simp [decodeSubblock, hab, hseq]

/-- Eight bytes of the sub-block format are read as an abort or as a sub-block. -/
theorem decodeSubblock_cases {pay : Payload} {i : Instr} (h : decodeSubblock pay = .ok i) :
    (pay[0] = abortByte ∧ i = wireInstr pay .abort) ∨ (seqField pay[0] ≠ 0 ∧ i = wireInstr pay .subblk) := by
  by_cases hab : pay[0] = abortByte
  · exact .inl ⟨hab, Except.ok.inj (h.symm.trans (decodeSubblock_of_abort hab))⟩
  by_cases hseq : seqField pay[0] = 0
  · cases h.symm.trans (decodeSubblock_of_sequenceZero hab hseq)
  · exact .inr ⟨hseq, Except.ok.inj (h.symm.trans (decodeSubblock_of_seqField hseq))⟩

/-- A selector reads an operation, never a `WIRE.SDO` row (R92). -/
theorem wireKind_of_decodeOp {sel : BitVec 8} {o : OperandBundle} {i : Instr} (h : decodeOp sel o = .ok i) :
    i.wireKind = none := by
  unfold decodeOp at h
  split at h <;> cases h <;> rfl

/-! ### Decode of encode -/

/-- The four lanes of the expedited data are read from where they are driven (10_state.md R23). -/
@[simp] theorem firstFour_fourLanes (d : Lanes 4) : firstFour (fourLanes d) = d := by
  apply Vector.ext
  intro i hi
  rw [firstFour, fourLanes, lanesFrom_getElem, if_pos hi, putLanes_getElem, dif_pos (by omega)]
  simp

/-- What is encoded for an operation, or for one of the two rows without a kind, is read back by its selector or its
format. -/
theorem decode_encode_of_wireKind_none (m : CsMap) {i : Instr} (h : i.wireKind = none) :
    decode m (encode i) = .ok i := by
  cases i <;> cases h
  case sdobDlInitC | sdobUlInitS => simp [encode, decode, decodeOp]
  all_goals rfl

/-- What is encoded for the row of a kind is read back as it where byte 0 has the pattern of the kind. -/
theorem decode_encode_wireInstr {m : CsMap} (hm : m.Wf) {k : Kind} {pay : Payload}
    (h : matchesKind m k pay[0] = true) : decode m (encode (wireInstr pay k)) = .ok (wireInstr pay k) := by
  by_cases hk : k = .subblk
  case pos =>
    subst hk
    exact decodeSubblock_of_seqField ((matchesKind_subblk_iff m _).1 h)
  case neg =>
    rw [encode_wireInstr pay hk]
    exact (decodeEnvelope_eq_ok_iff ..).2 ⟨k, identKind_complete m hm k _ _ hk (sentBy_kindSender k) h, rfl⟩

/-- Settles O8: an operation by its selector, a row of a kind by the pattern of the kind. -/
theorem encodedInstructionDecodesToItself : Obligations.EncodedInstructionDecodesToItself := by
  intro m i hm hwf
  cases hi : i.wireKind with
  | none => exact decode_encode_of_wireKind_none m hi
  | some kp =>
    obtain ⟨k, pay⟩ := kp
    obtain rfl := eq_wireInstr_of_wireKind hi
    rw [wellFormed_wireInstr] at hwf
    exact decode_encode_wireInstr hm hwf

/-! ### Encode of decode -/

/-- What the decoder reads is well formed: an operation always, a wire item because it was recognised. -/
theorem wellFormed_of_decode {m : CsMap} (hm : m.Wf) {w : PortWord} {i : Instr} (h : decode m w = .ok i) :
    i.wellFormed m = true := by
  cases w with
  | op sel o => exact wellFormed_of_wireKind_none m (wireKind_of_decodeOp h)
  | recWord v => cases h; rfl
  | cobId c => cases h; rfl
  | envelope dir pay =>
    obtain ⟨k, hk, rfl⟩ := (decodeEnvelope_eq_ok_iff ..).1 h
    obtain ⟨-, -, hmatch⟩ := identKind_sound m hm k dir _ hk
    rwa [wellFormed_wireInstr]
  | subblock pay =>
    obtain ⟨hab, rfl⟩ | ⟨hseq, rfl⟩ := decodeSubblock_cases h
    · rw [wellFormed_wireInstr, matchesKind_abort_iff, hab]
      decide
    · rwa [wellFormed_wireInstr, matchesKind_subblk_iff]

/-- Settles O9: what is read is well formed, so its encoding is read back as it. -/
theorem decodedInstructionIsWellFormed : Obligations.DecodedInstructionIsWellFormed := by
  intro m w i hm hd
  have hwf := wellFormed_of_decode hm hd
  exact ⟨hwf, encodedInstructionDecodesToItself m i hm hwf⟩

/-- Settles O7: the words, decoded by evaluation. -/
theorem sampleWordsDecode : Obligations.SampleWordsDecode := ⟨rfl, rfl, rfl, rfl, rfl, rfl, rfl⟩

end Sys2Proof.Machine
end

section
/-! PROOFS. Failures (60_exceptions.md R331, R336, R338): a raised status changes nothing but the response, and each
operation raises the status of its row alone. -/

namespace Sys2Proof.Machine

/-! ### A failure changes nothing else (R336) -/

/-- An instruction that raises a status delivers it and leaves the rest of the state, `CRCACC` too. -/
theorem exec_of_raised {i : Instr} {s : State} {f : Failure} (h : responseOf (exec i s) = some (.raised f)) :
    exec i s = .next (s.withResponse (.raised f)) := by
  by_cases hw : WritesCrcacc i
  case neg =>
    obtain ⟨r, hr⟩ := exec_of_not_writesCrcacc i s hw
    rw [hr] at h ⊢
    obtain rfl : r = .raised f := Option.some.inj h
    rfl
  case pos =>
    obtain rfl | ⟨len, dat, rfl⟩ := hw
    · cases h
    obtain hlen | hlen := Nat.lt_or_ge 8 len.toNat
    · rw [exec_crcUpd_bad len dat s hlen] at h ⊢
      cases h
      rfl
    · rw [exec_crcUpd_good len dat s hlen] at h
      cases h

/-- Settles O14: the next state differs in the response, which no instruction reads. -/
theorem failureChangesNothing : Obligations.FailureChangesNothing := by
  intro i s t f ht hf
  have hraised : responseOf (exec i s) = some (.raised f) := by rw [ht, responseOf_next, hf]
  obtain rfl : s.withResponse (.raised f) = t :=
    Host.Outcome.next.inj ((exec_of_raised hraised).symm.trans ht)
  exact ⟨rfl, fun j => exec_withResponse j s _⟩

/-! ### The one status of a row (R331, R338) -/

/-- An outcome raises no status but the one allowed. -/
def RaisesOnly (allowed : Option Failure) (o : StepResult) : Prop :=
  ∀ f, responseOf o = some (.raised f) → allowed = some f

theorem complete_raisesOnly {allowed : Option Failure} {b : Results} {s : State} :
    RaisesOnly allowed (complete b s) := nofun

theorem raise_raisesOnly {f : Failure} {s : State} : RaisesOnly (some f) (raise f s) := by
  rintro g h
  cases h
  rfl

/-- An operation that checks its operands and else completes. -/
theorem raise_or_complete_raisesOnly {bad : Bool} {f : Failure} {b : Results} {s t : State} :
    RaisesOnly (some f) (if bad then raise f s else complete b t) := by
  cases bad
  case false => exact complete_raisesOnly
  case true => exact raise_raisesOnly

theorem expect_raisesOnly {m : CsMap} {dir : Sender} {want : BitVec 3} {sub : Option (BitVec 2)} {plen : BitVec 4}
    {pay : Payload} {fields : Results} {s : State} :
    RaisesOnly (some .malformedSdo) (deliver (expect m dir want sub plen pay fields) s) := by
  obtain hr | ⟨-, -, -, hr⟩ | ⟨-, -, -, hr⟩ := expect_cases m dir want sub plen pay fields
  · exact hr ▸ raise_raisesOnly
  · exact hr ▸ complete_raisesOnly
  · exact hr ▸ complete_raisesOnly

theorem expectSubblk_raisesOnly {plen : BitVec 4} {pay : Payload} {s : State} :
    RaisesOnly (some .malformedSdo) (deliver (expectSubblk plen pay) s) := by
  obtain hr | ⟨-, -, hr⟩ | ⟨-, -, -, hr⟩ := expectSubblk_cases plen pay
  · exact hr ▸ raise_raisesOnly
  · exact hr ▸ complete_raisesOnly
  · exact hr ▸ complete_raisesOnly

theorem buildInitData_raisesOnly {cs : BitVec 3} {index : BitVec 16} {subidx : BitVec 8} {e si : Bool}
    {len : BitVec 4} {d : Lanes 4} {size : BitVec 32} {s : State} :
    RaisesOnly (some .badOperand) (deliver (buildInitData cs index subidx e si len d size) s) := by
  by_cases h : e = true ∧ si = true ∧ (len.toNat < 1 ∨ 4 < len.toNat)
  · exact buildInitData_bad cs index subidx e si len d size h ▸ raise_raisesOnly
  · exact buildInitData_good cs index subidx e si len d size h ▸ complete_raisesOnly

theorem buildSegData_raisesOnly {cs : BitVec 3} {t c : Bool} {len : BitVec 4} {d : Lanes 7} {s : State} :
    RaisesOnly (some .badOperand) (deliver (buildSegData cs t c len d) s) := by
  obtain h | h := Nat.lt_or_ge 7 len.toNat
  · exact buildSegData_bad cs t c len d h ▸ raise_raisesOnly
  · exact buildSegData_good cs t c len d h ▸ complete_raisesOnly

theorem sdoIdent_raisesOnly {dir : Sender} {plen : BitVec 4} {pay : Payload} {s : State} :
    RaisesOnly (some .malformedSdo) (exec (.sdoIdent dir plen pay) s) := by
  rw [exec_sdoIdent]
  split
  · exact raise_raisesOnly
  · cases identKind s.csMap dir pay[0] with
    | none => exact raise_raisesOnly
    | some k => exact complete_raisesOnly

theorem sdopAbort_raisesOnly {plen : BitVec 4} {pay : Payload} {s : State} :
    RaisesOnly (some .malformedSdo) (exec (.sdopAbort plen pay) s) :=
  exec_sdopAbort .client plen pay s ▸ expect_raisesOnly

/-- Settles O17: row by row, by the one check of the operation or by the shared step that makes the check. -/
theorem operationRaisesOnlyItsOwnStatus : Obligations.OperationRaisesOnlyItsOwnStatus := by
  intro i s
  change RaisesOnly (mayRaise i) (exec i s)
  cases i
  -- one check, then the operation completes
  case canfEnc | canfDec | sdobSubblk | crcUpd | wireSdoAbort => exact raise_or_complete_raisesOnly
  -- the check of a shared builder
  case sdobDlInitC | sdobUlInitS => exact buildInitData_raisesOnly
  case sdobDlSegC | sdobUlSegS => exact buildSegData_raisesOnly
  -- no check
  case cobCompose | cobDecompose | cobClassify | crcClr | crcRd | crcChk | wireRecW | wireCob | sdobAbort
      | sdobDlInitS | sdobUlInitC | sdobDlSegS | sdobUlSegC | sdobBdlInitC | sdobBulInitS | sdobBdlInitS | sdobBulInitC
      | sdobBdlAckS | sdobBulAckC | sdobBdlEndC | sdobBulEndS | sdobBdlEndS | sdobBulStartC | sdobBulEndC =>
    exact complete_raisesOnly
  -- recognition and parsers
  case sdoIdent => exact sdoIdent_raisesOnly
  case sdopAbort => exact sdopAbort_raisesOnly
  case sdopSubblk | wireSdoSubblk => exact expectSubblk_raisesOnly
  all_goals exact expect_raisesOnly

end Sys2Proof.Machine
end

section
/-! PROOFS. Wire items (log entry 4): a `WIRE.SDO` row executes as the parser of its kind on eight bytes; the two other
rows read the fields of their layouts (30_encoding.md R61, R63); and eight bytes alone do not say which operation they
are meant for (70_reset_and_hazards.md R372). -/

namespace Sys2Proof.Machine

/-! ### The `WIRE.SDO` rows (30_encoding.md R75) -/

/-- The row of a kind is executed as the parser of the kind. -/
theorem exec_wireInstr (pay : Payload) (k : Kind) (s : State) :
    exec (wireInstr pay k) s = exec (parseOp 8 pay k) s := by
  cases k <;> rfl

/-- Settles O59: the parser of the kind delivers the fields of a payload with the pattern of the kind. -/
theorem wireItemsDeliverTheirFields : Obligations.WireItemsDeliverTheirFields := by
  intro s i k pay hm hi hwf
  obtain rfl := eq_wireInstr_of_wireKind hi
  rw [wellFormed_wireInstr] at hwf
  exact ⟨kindFields pay k, (exec_wireInstr pay k s).trans (exec_parseOp_of_matchesKind hm hwf),
    resultKind_kindFields pay k, (exec_wireInstr pay k s).symm⟩

/-! ### `WIRE.REC.W` and `WIRE.COB` (R61, R63) -/

/-- Each field is read back from the word it was put into. -/
theorem fields_of_recordWord (arbId : BitVec 29) (ext rtr err : Bool) :
    (recordWord arbId ext rtr err).getLsbD 31 = ext ∧ (recordWord arbId ext rtr err).getLsbD 30 = rtr ∧
      (recordWord arbId ext rtr err).getLsbD 29 = err ∧ wordArbId (recordWord arbId ext rtr err) = arbId :=
  recordWord_inj.1 (recordWord_of_fields _)

theorem exec_wireRecW_recordWord (arbId : BitVec 29) (ext rtr err : Bool) (s : State) :
    exec (.wireRecW (recordWord arbId ext rtr err)) s =
      .next (s.withResponse (.ok (.recordFields arbId ext rtr err))) := by
  obtain ⟨hext, hrtr, herr, harb⟩ := fields_of_recordWord arbId ext rtr err
  simp only [exec, execWireRecW, complete_eq, hext, hrtr, herr, harb]

/-- The row `WIRE.COB` reads what `COB.DECOMPOSE` reads. -/
theorem exec_wireCob_cobOf (fc4 : BitVec 4) (node7 : BitVec 7) (s : State) :
    exec (.wireCob (cobOf fc4 node7)) s = .next (s.withResponse (.ok (.cobFields fc4 node7))) :=
  exec_cobDecompose_cobOf fc4 node7 s

/-- Settles O58: the word and the identifier are the concatenations of their fields. -/
theorem wordAndIdRowsReadTheirFields : Obligations.WordAndIdRowsReadTheirFields := fun s arbId ext rtr err fc4 node7 =>
  ⟨exec_wireRecW_recordWord arbId ext rtr err s, exec_wireCob_cobOf fc4 node7 s⟩

/-! ### One payload, three operations (R372) -/

/-- Under the default map a parser reads every payload that has the default pattern of its kind. -/
theorem exec_parseOp_of_default {s : State} (hs : s.csMap = CsMap.default) {k : Kind} {pay : Payload}
    (h : matchesKind CsMap.default k pay[0] = true) :
    exec (parseOp 8 pay k) s = .next (s.withResponse (.ok (kindFields pay k))) :=
  exec_parseOp_of_matchesKind (hs ▸ by decide) (hs ▸ h)

/-- Settles O51: byte 0 = 0x41 has the patterns of three kinds. -/
theorem wrongContextIsNotDetected : Obligations.WrongContextIsNotDetected := by
  intro s hs
  refine ⟨⟨_, ?e, ?s, ?size, exec_parseOp_of_default hs (k := .ulInitS) (by decide)⟩,
    exec_parseOp_of_default hs (k := .ulInitC) (by decide),
    ⟨_, exec_parseOp_of_default hs (k := .subblk) (by decide)⟩⟩
  all_goals rfl

end Sys2Proof.Machine
end

section
/-! PROOFS. One step and the state after reset (10_state.md R20, R31; 60_exceptions.md R340, R343;
70_reset_and_hazards.md R361). -/

namespace Sys2Proof.Machine

theorem step_of_idle {s : State} (hin : s.inputs = []) : step s = .next s := by
  have ht : takeEvent s = none := by simp only [takeEvent, hin]
  simp only [step, ht]

theorem step_of_reset {s : State} {rest : List HostEvent} (hin : s.inputs = .reset :: rest) :
    step s = .next (hostReset (s.withInputs rest)) := by
  have ht : takeEvent s = some (.reset, s.withInputs rest) := by simp only [takeEvent, hin]
  simp only [step, ht]

/-- Settles O2: the four fields of the state after the reset event. -/
theorem resetEventClearsAccumulator : Obligations.ResetEventClearsAccumulator := fun _ _ hin => step_of_reset hin

/-- Settles O3: there is no event to take. -/
theorem idleStepKeepsTheState : Obligations.IdleStepKeepsTheState := fun _ hin => step_of_idle hin

/-- Settles O4: the event is taken and the item decoded under the map, which taking an event keeps. -/
theorem stepRunsTheDecodedInstruction : Obligations.StepRunsTheDecodedInstruction := fun _ _ _ _ hin hd =>
  step_of_decode_ok hin hd

/-- Settles O12: the default map is checked value by value, and no response stands. -/
theorem resetMeetsTheInvariant : Obligations.ResetMeetsTheInvariant := ⟨by decide, nofun⟩

end Sys2Proof.Machine
end
